-- ==== Sys2Proof/Word.lean ====
section
/-! DEFINITION. The two word types of the core: the byte (u8) and the 16-bit word (u16) of 00_scope.md R10. -/

namespace Sys2Proof

/-- u8 (R10): register halves, memory bytes, port values, opcode bytes. -/
abbrev Byte := BitVec 8

/-- u16 (R10): PC, SP, register pairs, addresses, the shift register. -/
abbrev Word := BitVec 16

end Sys2Proof
end

