-- ==== Sys2Proof/Config.lean ====
section
/-! DEFINITION. The fixed parameters of 00_scope.md R8, the configuration parameters of R9 as one record of plain data,
their values at the model's own reset (log 2, log 3), and the one uninterpreted constant, the disassembly text format. -/

namespace Sys2Proof

/-- MEM_SIZE (R8): "a single 64KB byte array". -/
def memSize : Nat := 0x10000

/-- ROM_SIZE (R8): "A constant boundary (8KB)". -/
def romSize : Nat := 0x2000

/-- MODE (R9, R13): the load convention, which also turns the ROM write protection on (arcade) or off (test) (R55, R56). -/
inductive Mode where
  | arcade
  | test
  deriving DecidableEq, Repr

/-- SHIFT_READ_MODE (R9, R70): how IN 3 takes its byte from the shift register. -/
inductive ShiftReadMode where
  | low
  | literalHigh
  deriving DecidableEq, Repr

/-- ANA_AC_MODE (R9, R122): what ANA and ANI leave in AC. -/
inductive AnaAcMode where
  | orBit3
  | zero
  deriving DecidableEq, Repr

/-- The parameters of R9, "arguments of the model" and no state of the core (R41). They are plain data, so that a machine
with any choice of them is a State (log 1). CYCLE_COST, "a total function opcode -> natural", is the vector of its 256
values, so every such function is one of these vectors. INT_VECTOR_MAP is the list of its pairs, read first match (log 14). -/
structure Config where
  mode               : Mode
  spReset            : Word
  intVectorMap       : List (Nat × BitVec 3)
  strictIllegalWrite : Bool
  wideWriteFold      : Bool
  shiftReadMode      : ShiftReadMode
  anaAcMode          : AnaAcMode
  haltWake           : Bool
  cycleCost          : Vector Nat 256
  deriving DecidableEq, Repr

/-- LOAD_ADDR (R8): where the image goes and execution starts. -/
def loadAddr : Mode → Word
  | .arcade => 0x0000
  | .test   => 0x0100

/-- The longest image `load` takes (R300, R301): ROM_SIZE in arcade mode, 0x10000 - 0x0100 in test mode. -/
def imageCapacity : Mode → Nat
  | .arcade => romSize
  | .test   => memSize - 0x0100

/-- Reference T-states (R320, `cycles_ref`) of the opcodes 0x00 to 0x0F; an illegal byte, which costs nothing (R82), has 0. -/
def referenceCosts0 : List Nat := [4, 10, 7, 5, 5, 5, 7, 4, 0, 10, 7, 5, 5, 5, 7, 4]

/-- Reference T-states (R320, `cycles_ref`) of the opcodes 0x10 to 0x1F; an illegal byte, which costs nothing (R82), has 0. -/
def referenceCosts1 : List Nat := [0, 10, 7, 5, 5, 5, 7, 4, 0, 10, 7, 5, 5, 5, 7, 4]

/-- Reference T-states (R320, `cycles_ref`) of the opcodes 0x20 to 0x2F; an illegal byte, which costs nothing (R82), has 0. -/
def referenceCosts2 : List Nat := [0, 10, 16, 5, 5, 5, 7, 4, 0, 10, 16, 5, 5, 5, 7, 4]

/-- Reference T-states (R320, `cycles_ref`) of the opcodes 0x30 to 0x3F; an illegal byte, which costs nothing (R82), has 0. -/
def referenceCosts3 : List Nat := [0, 10, 13, 5, 10, 10, 10, 4, 0, 10, 13, 5, 5, 5, 7, 4]

/-- Reference T-states (R320, `cycles_ref`) of the opcodes 0x40 to 0x4F; an illegal byte, which costs nothing (R82), has 0. -/
def referenceCosts4 : List Nat := [5, 5, 5, 5, 5, 5, 7, 5, 5, 5, 5, 5, 5, 5, 7, 5]

/-- Reference T-states (R320, `cycles_ref`) of the opcodes 0x50 to 0x5F; an illegal byte, which costs nothing (R82), has 0. -/
def referenceCosts5 : List Nat := [5, 5, 5, 5, 5, 5, 7, 5, 5, 5, 5, 5, 5, 5, 7, 5]

/-- Reference T-states (R320, `cycles_ref`) of the opcodes 0x60 to 0x6F; an illegal byte, which costs nothing (R82), has 0. -/
def referenceCosts6 : List Nat := [5, 5, 5, 5, 5, 5, 7, 5, 5, 5, 5, 5, 5, 5, 7, 5]

/-- Reference T-states (R320, `cycles_ref`) of the opcodes 0x70 to 0x7F; an illegal byte, which costs nothing (R82), has 0. -/
def referenceCosts7 : List Nat := [7, 7, 7, 7, 7, 7, 7, 7, 5, 5, 5, 5, 5, 5, 7, 5]

/-- Reference T-states (R320, `cycles_ref`) of the opcodes 0x80 to 0x8F; an illegal byte, which costs nothing (R82), has 0. -/
def referenceCosts8 : List Nat := [4, 4, 4, 4, 4, 4, 7, 4, 4, 4, 4, 4, 4, 4, 7, 4]

/-- Reference T-states (R320, `cycles_ref`) of the opcodes 0x90 to 0x9F; an illegal byte, which costs nothing (R82), has 0. -/
def referenceCosts9 : List Nat := [4, 4, 4, 4, 4, 4, 7, 4, 4, 4, 4, 4, 4, 4, 7, 4]

/-- Reference T-states (R320, `cycles_ref`) of the opcodes 0xA0 to 0xAF; an illegal byte, which costs nothing (R82), has 0. -/
def referenceCostsA : List Nat := [4, 4, 4, 4, 4, 4, 7, 4, 4, 4, 4, 4, 4, 4, 7, 4]

/-- Reference T-states (R320, `cycles_ref`) of the opcodes 0xB0 to 0xBF; an illegal byte, which costs nothing (R82), has 0. -/
def referenceCostsB : List Nat := [4, 4, 4, 4, 4, 4, 7, 4, 4, 4, 4, 4, 4, 4, 7, 4]

/-- Reference T-states (R320, `cycles_ref`) of the opcodes 0xC0 to 0xCF; an illegal byte, which costs nothing (R82), has 0. -/
def referenceCostsC : List Nat := [11, 10, 10, 10, 17, 11, 7, 11, 11, 10, 10, 0, 17, 17, 7, 11]

/-- Reference T-states (R320, `cycles_ref`) of the opcodes 0xD0 to 0xDF; an illegal byte, which costs nothing (R82), has 0. -/
def referenceCostsD : List Nat := [11, 10, 10, 10, 17, 11, 7, 11, 11, 0, 10, 10, 17, 0, 7, 11]

/-- Reference T-states (R320, `cycles_ref`) of the opcodes 0xE0 to 0xEF; an illegal byte, which costs nothing (R82), has 0. -/
def referenceCostsE : List Nat := [11, 10, 10, 18, 17, 11, 7, 11, 11, 5, 10, 4, 17, 0, 7, 11]

/-- Reference T-states (R320, `cycles_ref`) of the opcodes 0xF0 to 0xFF; an illegal byte, which costs nothing (R82), has 0. -/
def referenceCostsF : List Nat := [11, 10, 10, 4, 17, 11, 7, 11, 11, 5, 10, 4, 17, 0, 7, 11]

/-- The 256 reference costs, in opcode order (R320; PRESUMED, log 3). -/
def referenceCosts : List Nat :=
  referenceCosts0 ++ referenceCosts1 ++ referenceCosts2 ++ referenceCosts3 ++ referenceCosts4 ++ referenceCosts5 ++ referenceCosts6 ++ referenceCosts7
    ++ referenceCosts8 ++ referenceCosts9 ++ referenceCostsA ++ referenceCostsB ++ referenceCostsC ++ referenceCostsD ++ referenceCostsE ++ referenceCostsF

theorem referenceCosts_length : referenceCosts.length = 256 := by
  simp only [referenceCosts, List.length_append]
  rfl

/-- The parameters at State.reset: the defaults of R9; MODE arcade, "the default load convention" (R13); CYCLE_COST the
reference table (log 2, log 3). No statement rests on them but those that name this record. -/
def Config.default : Config where
  mode               := .arcade
  spReset            := 0x0000
  intVectorMap       := [(1, 1), (2, 2)]
  strictIllegalWrite := false
  wideWriteFold      := true
  shiftReadMode      := .low
  anaAcMode          := .orBit3
  haltWake           := false
  cycleCost          := ⟨referenceCosts.toArray, referenceCosts_length⟩

/-- The fields of a disassembly line in their order (R96): address, opcode byte, mnemonic, operand bytes high to low. -/
structure LineFields where
  addr         : Nat
  opcode       : Byte
  mnemonic     : String
  operandBytes : List Byte
  deriving DecidableEq, Repr

/-- DISASM_FORMAT (R9, R96, D36): OPEN, so a constant with no body (log 15). -/
opaque Config.disasmFormat : LineFields → String

end Sys2Proof
end

