-- ==== Sys2Proof/Syntax.lean ====
section
/-! DEFINITION. The instructions: one constructor per row of spec/opcode_table.json (30_encoding.md R83, R91), the 244
legal ones in its order, then the twelve illegal bytes of R92 (Lean's compiler takes a field only in the first 245 places).
Register, pair and condition codes are part of the constructor, as they are of the row; an immediate is its field, the byte
imm8 (d8, p8) or the word imm16 (d16, a16) of R85. -/

namespace Sys2Proof

inductive Instr where
  /-- NOP (R230). -/
  | nop
  /-- LXI B,d16 (R105). -/
  | lxiB (d16 : Word)
  /-- STAX B (R109). -/
  | staxB
  /-- INX B (R138). -/
  | inxB
  /-- INR B (R134). -/
  | inrB
  /-- DCR B (R136). -/
  | dcrB
  /-- MVI B,d8 (R103). -/
  | mviB (d8 : Byte)
  /-- RLC (R170). -/
  | rlc
  /-- DAD B (R140). -/
  | dadB
  /-- LDAX B (R108). -/
  | ldaxB
  /-- DCX B (R139). -/
  | dcxB
  /-- INR C (R134). -/
  | inrC
  /-- DCR C (R136). -/
  | dcrC
  /-- MVI C,d8 (R103). -/
  | mviC (d8 : Byte)
  /-- RRC (R171). -/
  | rrc
  /-- LXI D,d16 (R105). -/
  | lxiD (d16 : Word)
  /-- STAX D (R109). -/
  | staxD
  /-- INX D (R138). -/
  | inxD
  /-- INR D (R134). -/
  | inrD
  /-- DCR D (R136). -/
  | dcrD
  /-- MVI D,d8 (R103). -/
  | mviD (d8 : Byte)
  /-- RAL (R172). -/
  | ral
  /-- DAD D (R140). -/
  | dadD
  /-- LDAX D (R108). -/
  | ldaxD
  /-- DCX D (R139). -/
  | dcxD
  /-- INR E (R134). -/
  | inrE
  /-- DCR E (R136). -/
  | dcrE
  /-- MVI E,d8 (R103). -/
  | mviE (d8 : Byte)
  /-- RAR (R173). -/
  | rar
  /-- LXI H,d16 (R105). -/
  | lxiH (d16 : Word)
  /-- SHLD a16 (R111). -/
  | shld (a16 : Word)
  /-- INX H (R138). -/
  | inxH
  /-- INR H (R134). -/
  | inrH
  /-- DCR H (R136). -/
  | dcrH
  /-- MVI H,d8 (R103). -/
  | mviH (d8 : Byte)
  /-- DAA (R141). -/
  | daa
  /-- DAD H (R140). -/
  | dadH
  /-- LHLD a16 (R110). -/
  | lhld (a16 : Word)
  /-- DCX H (R139). -/
  | dcxH
  /-- INR L (R134). -/
  | inrL
  /-- DCR L (R136). -/
  | dcrL
  /-- MVI L,d8 (R103). -/
  | mviL (d8 : Byte)
  /-- CMA (R234). -/
  | cma
  /-- LXI SP,d16 (R105). -/
  | lxiSp (d16 : Word)
  /-- STA a16 (R107). -/
  | sta (a16 : Word)
  /-- INX SP (R138). -/
  | inxSp
  /-- INR M (R135). -/
  | inrM
  /-- DCR M (R137). -/
  | dcrM
  /-- MVI M,d8 (R104). -/
  | mviM (d8 : Byte)
  /-- STC (R236). -/
  | stc
  /-- DAD SP (R140). -/
  | dadSp
  /-- LDA a16 (R106). -/
  | lda (a16 : Word)
  /-- DCX SP (R139). -/
  | dcxSp
  /-- INR A (R134). -/
  | inrA
  /-- DCR A (R136). -/
  | dcrA
  /-- MVI A,d8 (R103). -/
  | mviA (d8 : Byte)
  /-- CMC (R235). -/
  | cmc
  /-- MOV B,B (R100). -/
  | movBB
  /-- MOV B,C (R100). -/
  | movBC
  /-- MOV B,D (R100). -/
  | movBD
  /-- MOV B,E (R100). -/
  | movBE
  /-- MOV B,H (R100). -/
  | movBH
  /-- MOV B,L (R100). -/
  | movBL
  /-- MOV B,M (R101). -/
  | movBM
  /-- MOV B,A (R100). -/
  | movBA
  /-- MOV C,B (R100). -/
  | movCB
  /-- MOV C,C (R100). -/
  | movCC
  /-- MOV C,D (R100). -/
  | movCD
  /-- MOV C,E (R100). -/
  | movCE
  /-- MOV C,H (R100). -/
  | movCH
  /-- MOV C,L (R100). -/
  | movCL
  /-- MOV C,M (R101). -/
  | movCM
  /-- MOV C,A (R100). -/
  | movCA
  /-- MOV D,B (R100). -/
  | movDB
  /-- MOV D,C (R100). -/
  | movDC
  /-- MOV D,D (R100). -/
  | movDD
  /-- MOV D,E (R100). -/
  | movDE
  /-- MOV D,H (R100). -/
  | movDH
  /-- MOV D,L (R100). -/
  | movDL
  /-- MOV D,M (R101). -/
  | movDM
  /-- MOV D,A (R100). -/
  | movDA
  /-- MOV E,B (R100). -/
  | movEB
  /-- MOV E,C (R100). -/
  | movEC
  /-- MOV E,D (R100). -/
  | movED
  /-- MOV E,E (R100). -/
  | movEE
  /-- MOV E,H (R100). -/
  | movEH
  /-- MOV E,L (R100). -/
  | movEL
  /-- MOV E,M (R101). -/
  | movEM
  /-- MOV E,A (R100). -/
  | movEA
  /-- MOV H,B (R100). -/
  | movHB
  /-- MOV H,C (R100). -/
  | movHC
  /-- MOV H,D (R100). -/
  | movHD
  /-- MOV H,E (R100). -/
  | movHE
  /-- MOV H,H (R100). -/
  | movHH
  /-- MOV H,L (R100). -/
  | movHL
  /-- MOV H,M (R101). -/
  | movHM
  /-- MOV H,A (R100). -/
  | movHA
  /-- MOV L,B (R100). -/
  | movLB
  /-- MOV L,C (R100). -/
  | movLC
  /-- MOV L,D (R100). -/
  | movLD
  /-- MOV L,E (R100). -/
  | movLE
  /-- MOV L,H (R100). -/
  | movLH
  /-- MOV L,L (R100). -/
  | movLL
  /-- MOV L,M (R101). -/
  | movLM
  /-- MOV L,A (R100). -/
  | movLA
  /-- MOV M,B (R102). -/
  | movMB
  /-- MOV M,C (R102). -/
  | movMC
  /-- MOV M,D (R102). -/
  | movMD
  /-- MOV M,E (R102). -/
  | movME
  /-- MOV M,H (R102). -/
  | movMH
  /-- MOV M,L (R102). -/
  | movML
  /-- HLT (R231). -/
  | hlt
  /-- MOV M,A (R102). -/
  | movMA
  /-- MOV A,B (R100). -/
  | movAB
  /-- MOV A,C (R100). -/
  | movAC
  /-- MOV A,D (R100). -/
  | movAD
  /-- MOV A,E (R100). -/
  | movAE
  /-- MOV A,H (R100). -/
  | movAH
  /-- MOV A,L (R100). -/
  | movAL
  /-- MOV A,M (R101). -/
  | movAM
  /-- MOV A,A (R100). -/
  | movAA
  /-- ADD B (R126). -/
  | addB
  /-- ADD C (R126). -/
  | addC
  /-- ADD D (R126). -/
  | addD
  /-- ADD E (R126). -/
  | addE
  /-- ADD H (R126). -/
  | addH
  /-- ADD L (R126). -/
  | addL
  /-- ADD M (R127). -/
  | addM
  /-- ADD A (R126). -/
  | addA
  /-- ADC B (R128). -/
  | adcB
  /-- ADC C (R128). -/
  | adcC
  /-- ADC D (R128). -/
  | adcD
  /-- ADC E (R128). -/
  | adcE
  /-- ADC H (R128). -/
  | adcH
  /-- ADC L (R128). -/
  | adcL
  /-- ADC M (R129). -/
  | adcM
  /-- ADC A (R128). -/
  | adcA
  /-- SUB B (R130). -/
  | subB
  /-- SUB C (R130). -/
  | subC
  /-- SUB D (R130). -/
  | subD
  /-- SUB E (R130). -/
  | subE
  /-- SUB H (R130). -/
  | subH
  /-- SUB L (R130). -/
  | subL
  /-- SUB M (R131). -/
  | subM
  /-- SUB A (R130). -/
  | subA
  /-- SBB B (R132). -/
  | sbbB
  /-- SBB C (R132). -/
  | sbbC
  /-- SBB D (R132). -/
  | sbbD
  /-- SBB E (R132). -/
  | sbbE
  /-- SBB H (R132). -/
  | sbbH
  /-- SBB L (R132). -/
  | sbbL
  /-- SBB M (R133). -/
  | sbbM
  /-- SBB A (R132). -/
  | sbbA
  /-- ANA B (R150). -/
  | anaB
  /-- ANA C (R150). -/
  | anaC
  /-- ANA D (R150). -/
  | anaD
  /-- ANA E (R150). -/
  | anaE
  /-- ANA H (R150). -/
  | anaH
  /-- ANA L (R150). -/
  | anaL
  /-- ANA M (R151). -/
  | anaM
  /-- ANA A (R150). -/
  | anaA
  /-- XRA B (R152). -/
  | xraB
  /-- XRA C (R152). -/
  | xraC
  /-- XRA D (R152). -/
  | xraD
  /-- XRA E (R152). -/
  | xraE
  /-- XRA H (R152). -/
  | xraH
  /-- XRA L (R152). -/
  | xraL
  /-- XRA M (R153). -/
  | xraM
  /-- XRA A (R152). -/
  | xraA
  /-- ORA B (R154). -/
  | oraB
  /-- ORA C (R154). -/
  | oraC
  /-- ORA D (R154). -/
  | oraD
  /-- ORA E (R154). -/
  | oraE
  /-- ORA H (R154). -/
  | oraH
  /-- ORA L (R154). -/
  | oraL
  /-- ORA M (R155). -/
  | oraM
  /-- ORA A (R154). -/
  | oraA
  /-- CMP B (R156). -/
  | cmpB
  /-- CMP C (R156). -/
  | cmpC
  /-- CMP D (R156). -/
  | cmpD
  /-- CMP E (R156). -/
  | cmpE
  /-- CMP H (R156). -/
  | cmpH
  /-- CMP L (R156). -/
  | cmpL
  /-- CMP M (R157). -/
  | cmpM
  /-- CMP A (R156). -/
  | cmpA
  /-- RNZ (R206). -/
  | rnz
  /-- POP B (R222). -/
  | popB
  /-- JNZ a16 (R188). -/
  | jnz (a16 : Word)
  /-- JMP a16 (R187). -/
  | jmp (a16 : Word)
  /-- CNZ a16 (R197). -/
  | cnz (a16 : Word)
  /-- PUSH B (R220). -/
  | pushB
  /-- ADI d8 (R162). -/
  | adi (d8 : Byte)
  /-- RST 0 (R214). -/
  | rst0
  /-- RZ (R207). -/
  | rz
  /-- RET (R205). -/
  | ret
  /-- JZ a16 (R189). -/
  | jz (a16 : Word)
  /-- CZ a16 (R198). -/
  | cz (a16 : Word)
  /-- CALL a16 (R196). -/
  | call (a16 : Word)
  /-- ACI d8 (R163). -/
  | aci (d8 : Byte)
  /-- RST 1 (R214). -/
  | rst1
  /-- RNC (R208). -/
  | rnc
  /-- POP D (R222). -/
  | popD
  /-- JNC a16 (R190). -/
  | jnc (a16 : Word)
  /-- OUT p8 (R241). -/
  | out (p8 : Byte)
  /-- CNC a16 (R199). -/
  | cnc (a16 : Word)
  /-- PUSH D (R220). -/
  | pushD
  /-- SUI d8 (R164). -/
  | sui (d8 : Byte)
  /-- RST 2 (R214). -/
  | rst2
  /-- RC (R209). -/
  | rc
  /-- JC a16 (R191). -/
  | jc (a16 : Word)
  /-- IN p8 (R240). -/
  | inp (p8 : Byte)
  /-- CC a16 (R200). -/
  | cc (a16 : Word)
  /-- SBI d8 (R165). -/
  | sbi (d8 : Byte)
  /-- RST 3 (R214). -/
  | rst3
  /-- RPO (R210). -/
  | rpo
  /-- POP H (R222). -/
  | popH
  /-- JPO a16 (R192). -/
  | jpo (a16 : Word)
  /-- XTHL (R113). -/
  | xthl
  /-- CPO a16 (R201). -/
  | cpo (a16 : Word)
  /-- PUSH H (R220). -/
  | pushH
  /-- ANI d8 (R158). -/
  | ani (d8 : Byte)
  /-- RST 4 (R214). -/
  | rst4
  /-- RPE (R211). -/
  | rpe
  /-- PCHL (R115). -/
  | pchl
  /-- JPE a16 (R193). -/
  | jpe (a16 : Word)
  /-- XCHG (R112). -/
  | xchg
  /-- CPE a16 (R202). -/
  | cpe (a16 : Word)
  /-- XRI d8 (R159). -/
  | xri (d8 : Byte)
  /-- RST 5 (R214). -/
  | rst5
  /-- RP (R212). -/
  | rp
  /-- POP PSW (R223). -/
  | popPsw
  /-- JP a16 (R194). -/
  | jp (a16 : Word)
  /-- DI (R232). -/
  | di
  /-- CP a16 (R203). -/
  | cp (a16 : Word)
  /-- PUSH PSW (R221). -/
  | pushPsw
  /-- ORI d8 (R160). -/
  | ori (d8 : Byte)
  /-- RST 6 (R214). -/
  | rst6
  /-- RM (R213). -/
  | rm
  /-- SPHL (R114). -/
  | sphl
  /-- JM a16 (R195). -/
  | jm (a16 : Word)
  /-- EI (R233). -/
  | ei
  /-- CM a16 (R204). -/
  | cm (a16 : Word)
  /-- CPI d8 (R161). -/
  | cpi (d8 : Byte)
  /-- RST 7 (R214). -/
  | rst7
  /-- unassigned byte 0x08 (R92). -/
  | illegal08
  /-- unassigned byte 0x10 (R92). -/
  | illegal10
  /-- unassigned byte 0x18 (R92). -/
  | illegal18
  /-- unassigned byte 0x20 (R92). -/
  | illegal20
  /-- unassigned byte 0x28 (R92). -/
  | illegal28
  /-- unassigned byte 0x30 (R92). -/
  | illegal30
  /-- unassigned byte 0x38 (R92). -/
  | illegal38
  /-- unassigned byte 0xCB (R92). -/
  | illegalcb
  /-- unassigned byte 0xD9 (R92). -/
  | illegald9
  /-- unassigned byte 0xDD (R92). -/
  | illegaldd
  /-- unassigned byte 0xED (R92). -/
  | illegaled
  /-- unassigned byte 0xFD (R92). -/
  | illegalfd
  deriving DecidableEq, Repr

end Sys2Proof
end

