-- ==== Sys2Proof/WellFormed.lean ====
section
/-! DEFINITION. Well-formedness. The types of Instr already bound every operand (a code is a constructor, imm8 is a byte,
imm16 a word), so the spec gives no ill-formed instruction by itself (R93); what it checks is an instruction AT AN ADDRESS:
one that would extend past the top of memory is not executed (R87). -/

namespace Sys2Proof

/-- The length in bytes of an instruction's format (R84): F2 has 2, F3 has 3, every other 1. -/
def Instr.length : Instr → Nat
  | .mviB _ => 2
  | .mviC _ => 2
  | .mviD _ => 2
  | .mviE _ => 2
  | .mviH _ => 2
  | .mviL _ => 2
  | .mviM _ => 2
  | .mviA _ => 2
  | .adi _ => 2
  | .aci _ => 2
  | .out _ => 2
  | .sui _ => 2
  | .inp _ => 2
  | .sbi _ => 2
  | .ani _ => 2
  | .xri _ => 2
  | .ori _ => 2
  | .cpi _ => 2
  | .lxiB _ => 3
  | .lxiD _ => 3
  | .lxiH _ => 3
  | .shld _ => 3
  | .lhld _ => 3
  | .lxiSp _ => 3
  | .sta _ => 3
  | .lda _ => 3
  | .jnz _ => 3
  | .jmp _ => 3
  | .cnz _ => 3
  | .jz _ => 3
  | .cz _ => 3
  | .call _ => 3
  | .jnc _ => 3
  | .cnc _ => 3
  | .jc _ => 3
  | .cc _ => 3
  | .jpo _ => 3
  | .cpo _ => 3
  | .jpe _ => 3
  | .cpe _ => 3
  | .jp _ => 3
  | .cp _ => 3
  | .jm _ => 3
  | .cm _ => 3
  | .nop | .staxB | .inxB | .inrB | .dcrB | .rlc | .illegal08 | .dadB | .ldaxB | .dcxB | .inrC | .dcrC | .rrc
  | .illegal10 | .staxD | .inxD | .inrD | .dcrD | .ral | .illegal18 | .dadD | .ldaxD | .dcxD | .inrE | .dcrE
  | .rar | .illegal20 | .inxH | .inrH | .dcrH | .daa | .illegal28 | .dadH | .dcxH | .inrL | .dcrL | .cma
  | .illegal30 | .inxSp | .inrM | .dcrM | .stc | .illegal38 | .dadSp | .dcxSp | .inrA | .dcrA | .cmc | .movBB
  | .movBC | .movBD | .movBE | .movBH | .movBL | .movBM | .movBA | .movCB | .movCC | .movCD | .movCE | .movCH
  | .movCL | .movCM | .movCA | .movDB | .movDC | .movDD | .movDE | .movDH | .movDL | .movDM | .movDA | .movEB
  | .movEC | .movED | .movEE | .movEH | .movEL | .movEM | .movEA | .movHB | .movHC | .movHD | .movHE | .movHH
  | .movHL | .movHM | .movHA | .movLB | .movLC | .movLD | .movLE | .movLH | .movLL | .movLM | .movLA | .movMB
  | .movMC | .movMD | .movME | .movMH | .movML | .hlt | .movMA | .movAB | .movAC | .movAD | .movAE | .movAH
  | .movAL | .movAM | .movAA | .addB | .addC | .addD | .addE | .addH | .addL | .addM | .addA | .adcB | .adcC
  | .adcD | .adcE | .adcH | .adcL | .adcM | .adcA | .subB | .subC | .subD | .subE | .subH | .subL | .subM
  | .subA | .sbbB | .sbbC | .sbbD | .sbbE | .sbbH | .sbbL | .sbbM | .sbbA | .anaB | .anaC | .anaD | .anaE
  | .anaH | .anaL | .anaM | .anaA | .xraB | .xraC | .xraD | .xraE | .xraH | .xraL | .xraM | .xraA | .oraB
  | .oraC | .oraD | .oraE | .oraH | .oraL | .oraM | .oraA | .cmpB | .cmpC | .cmpD | .cmpE | .cmpH | .cmpL
  | .cmpM | .cmpA | .rnz | .popB | .pushB | .rst0 | .rz | .ret | .illegalcb | .rst1 | .rnc | .popD | .pushD
  | .rst2 | .rc | .illegald9 | .illegaldd | .rst3 | .rpo | .popH | .xthl | .pushH | .rst4 | .rpe | .pchl
  | .xchg | .illegaled | .rst5 | .rp | .popPsw | .di | .pushPsw | .rst6 | .rm | .sphl | .ei | .illegalfd
  | .rst7 => 1

/-- Whether an instruction fits at address `pc` (R87): `PC + length > 0x10000` does not hold. -/
def Instr.wellFormedAt (pc : Word) (i : Instr) : Bool := decide (pc.toNat + i.length ≤ memSize)

end Sys2Proof
end

