-- ==== Sys2Proof/Decode.lean ====
section
/-! DEFINITION. Decoding and encoding. The decoder reads the 256-entry dispatch table (30_encoding.md R83) written as the grid of
R91, row by row; the encoder writes the bit patterns of the "Encoding:" line of each instruction's rule. -/

namespace Sys2Proof

/-- An entry of OPTABLE: the instruction of an opcode byte with its format (R84), which says what operand bytes follow. -/
inductive OpEntry where
  | f1 (i : Instr)
  | f2 (make : Byte → Instr)
  | f3 (make : Word → Instr)

/-- The row 0x of R91. -/
def opRow0 : List OpEntry := [
  .f1 .nop, .f3 .lxiB, .f1 .staxB, .f1 .inxB,
  .f1 .inrB, .f1 .dcrB, .f2 .mviB, .f1 .rlc,
  .f1 .illegal08, .f1 .dadB, .f1 .ldaxB, .f1 .dcxB,
  .f1 .inrC, .f1 .dcrC, .f2 .mviC, .f1 .rrc]

/-- The row 1x of R91. -/
def opRow1 : List OpEntry := [
  .f1 .illegal10, .f3 .lxiD, .f1 .staxD, .f1 .inxD,
  .f1 .inrD, .f1 .dcrD, .f2 .mviD, .f1 .ral,
  .f1 .illegal18, .f1 .dadD, .f1 .ldaxD, .f1 .dcxD,
  .f1 .inrE, .f1 .dcrE, .f2 .mviE, .f1 .rar]

/-- The row 2x of R91. -/
def opRow2 : List OpEntry := [
  .f1 .illegal20, .f3 .lxiH, .f3 .shld, .f1 .inxH,
  .f1 .inrH, .f1 .dcrH, .f2 .mviH, .f1 .daa,
  .f1 .illegal28, .f1 .dadH, .f3 .lhld, .f1 .dcxH,
  .f1 .inrL, .f1 .dcrL, .f2 .mviL, .f1 .cma]

/-- The row 3x of R91. -/
def opRow3 : List OpEntry := [
  .f1 .illegal30, .f3 .lxiSp, .f3 .sta, .f1 .inxSp,
  .f1 .inrM, .f1 .dcrM, .f2 .mviM, .f1 .stc,
  .f1 .illegal38, .f1 .dadSp, .f3 .lda, .f1 .dcxSp,
  .f1 .inrA, .f1 .dcrA, .f2 .mviA, .f1 .cmc]

/-- The row 4x of R91. -/
def opRow4 : List OpEntry := [
  .f1 .movBB, .f1 .movBC, .f1 .movBD, .f1 .movBE,
  .f1 .movBH, .f1 .movBL, .f1 .movBM, .f1 .movBA,
  .f1 .movCB, .f1 .movCC, .f1 .movCD, .f1 .movCE,
  .f1 .movCH, .f1 .movCL, .f1 .movCM, .f1 .movCA]

/-- The row 5x of R91. -/
def opRow5 : List OpEntry := [
  .f1 .movDB, .f1 .movDC, .f1 .movDD, .f1 .movDE,
  .f1 .movDH, .f1 .movDL, .f1 .movDM, .f1 .movDA,
  .f1 .movEB, .f1 .movEC, .f1 .movED, .f1 .movEE,
  .f1 .movEH, .f1 .movEL, .f1 .movEM, .f1 .movEA]

/-- The row 6x of R91. -/
def opRow6 : List OpEntry := [
  .f1 .movHB, .f1 .movHC, .f1 .movHD, .f1 .movHE,
  .f1 .movHH, .f1 .movHL, .f1 .movHM, .f1 .movHA,
  .f1 .movLB, .f1 .movLC, .f1 .movLD, .f1 .movLE,
  .f1 .movLH, .f1 .movLL, .f1 .movLM, .f1 .movLA]

/-- The row 7x of R91. -/
def opRow7 : List OpEntry := [
  .f1 .movMB, .f1 .movMC, .f1 .movMD, .f1 .movME,
  .f1 .movMH, .f1 .movML, .f1 .hlt, .f1 .movMA,
  .f1 .movAB, .f1 .movAC, .f1 .movAD, .f1 .movAE,
  .f1 .movAH, .f1 .movAL, .f1 .movAM, .f1 .movAA]

/-- The row 8x of R91. -/
def opRow8 : List OpEntry := [
  .f1 .addB, .f1 .addC, .f1 .addD, .f1 .addE,
  .f1 .addH, .f1 .addL, .f1 .addM, .f1 .addA,
  .f1 .adcB, .f1 .adcC, .f1 .adcD, .f1 .adcE,
  .f1 .adcH, .f1 .adcL, .f1 .adcM, .f1 .adcA]

/-- The row 9x of R91. -/
def opRow9 : List OpEntry := [
  .f1 .subB, .f1 .subC, .f1 .subD, .f1 .subE,
  .f1 .subH, .f1 .subL, .f1 .subM, .f1 .subA,
  .f1 .sbbB, .f1 .sbbC, .f1 .sbbD, .f1 .sbbE,
  .f1 .sbbH, .f1 .sbbL, .f1 .sbbM, .f1 .sbbA]

/-- The row Ax of R91. -/
def opRowA : List OpEntry := [
  .f1 .anaB, .f1 .anaC, .f1 .anaD, .f1 .anaE,
  .f1 .anaH, .f1 .anaL, .f1 .anaM, .f1 .anaA,
  .f1 .xraB, .f1 .xraC, .f1 .xraD, .f1 .xraE,
  .f1 .xraH, .f1 .xraL, .f1 .xraM, .f1 .xraA]

/-- The row Bx of R91. -/
def opRowB : List OpEntry := [
  .f1 .oraB, .f1 .oraC, .f1 .oraD, .f1 .oraE,
  .f1 .oraH, .f1 .oraL, .f1 .oraM, .f1 .oraA,
  .f1 .cmpB, .f1 .cmpC, .f1 .cmpD, .f1 .cmpE,
  .f1 .cmpH, .f1 .cmpL, .f1 .cmpM, .f1 .cmpA]

/-- The row Cx of R91. -/
def opRowC : List OpEntry := [
  .f1 .rnz, .f1 .popB, .f3 .jnz, .f3 .jmp,
  .f3 .cnz, .f1 .pushB, .f2 .adi, .f1 .rst0,
  .f1 .rz, .f1 .ret, .f3 .jz, .f1 .illegalcb,
  .f3 .cz, .f3 .call, .f2 .aci, .f1 .rst1]

/-- The row Dx of R91. -/
def opRowD : List OpEntry := [
  .f1 .rnc, .f1 .popD, .f3 .jnc, .f2 .out,
  .f3 .cnc, .f1 .pushD, .f2 .sui, .f1 .rst2,
  .f1 .rc, .f1 .illegald9, .f3 .jc, .f2 .inp,
  .f3 .cc, .f1 .illegaldd, .f2 .sbi, .f1 .rst3]

/-- The row Ex of R91. -/
def opRowE : List OpEntry := [
  .f1 .rpo, .f1 .popH, .f3 .jpo, .f1 .xthl,
  .f3 .cpo, .f1 .pushH, .f2 .ani, .f1 .rst4,
  .f1 .rpe, .f1 .pchl, .f3 .jpe, .f1 .xchg,
  .f3 .cpe, .f1 .illegaled, .f2 .xri, .f1 .rst5]

/-- The row Fx of R91. -/
def opRowF : List OpEntry := [
  .f1 .rp, .f1 .popPsw, .f3 .jp, .f1 .di,
  .f3 .cp, .f1 .pushPsw, .f2 .ori, .f1 .rst6,
  .f1 .rm, .f1 .sphl, .f3 .jm, .f1 .ei,
  .f3 .cm, .f1 .illegalfd, .f2 .cpi, .f1 .rst7]

/-- OPTABLE (R83). -/
def opTable : List OpEntry :=
  opRow0 ++ opRow1 ++ opRow2 ++ opRow3 ++ opRow4 ++ opRow5 ++ opRow6 ++ opRow7
    ++ opRow8 ++ opRow9 ++ opRowA ++ opRowB ++ opRowC ++ opRowD ++ opRowE ++ opRowF

theorem opTable_length : opTable.length = 256 := by
  simp only [opTable, List.length_append]
  rfl

/-- OPTABLE[op] (R81, R83): total on opcode bytes. -/
def opEntry (op : Byte) : OpEntry := opTable[op.toNat]'(opTable_length ▸ op.isLt)

/-- Why bytes give no instruction: there are none, or the opcode's operand bytes are not all there. -/
inductive DecodeError where
  | noBytes
  | truncated (opcode : Byte)
  deriving DecidableEq, Repr

/-- The instruction at the head of a list of bytes, with the rest of the list; imm16 has its low byte first (R59, R85). -/
def decode : List Byte → Except DecodeError (Instr × List Byte)
  | [] => .error .noBytes
  | op :: rest =>
    match opEntry op, rest with
    | .f1 i, rest => .ok (i, rest)
    | .f2 make, d :: rest => .ok (make d, rest)
    | .f3 make, lo :: hi :: rest => .ok (make (Machine.joinBytes hi lo), rest)
    | .f2 _, [] => .error (.truncated op)
    | .f3 _, [] => .error (.truncated op)
    | .f3 _, [_] => .error (.truncated op)

/-- The bytes of an instruction (R84, R85), from the bit patterns of the "Encoding:" lines. -/
def encode : Instr → List Byte
  | .nop => [0b00000000#8]
  | .lxiB d16 => [0b00000001#8, Machine.loByte d16, Machine.hiByte d16]
  | .staxB => [0b00000010#8]
  | .inxB => [0b00000011#8]
  | .inrB => [0b00000100#8]
  | .dcrB => [0b00000101#8]
  | .mviB d8 => [0b00000110#8, d8]
  | .rlc => [0b00000111#8]
  | .illegal08 => [0b00001000#8]
  | .dadB => [0b00001001#8]
  | .ldaxB => [0b00001010#8]
  | .dcxB => [0b00001011#8]
  | .inrC => [0b00001100#8]
  | .dcrC => [0b00001101#8]
  | .mviC d8 => [0b00001110#8, d8]
  | .rrc => [0b00001111#8]
  | .illegal10 => [0b00010000#8]
  | .lxiD d16 => [0b00010001#8, Machine.loByte d16, Machine.hiByte d16]
  | .staxD => [0b00010010#8]
  | .inxD => [0b00010011#8]
  | .inrD => [0b00010100#8]
  | .dcrD => [0b00010101#8]
  | .mviD d8 => [0b00010110#8, d8]
  | .ral => [0b00010111#8]
  | .illegal18 => [0b00011000#8]
  | .dadD => [0b00011001#8]
  | .ldaxD => [0b00011010#8]
  | .dcxD => [0b00011011#8]
  | .inrE => [0b00011100#8]
  | .dcrE => [0b00011101#8]
  | .mviE d8 => [0b00011110#8, d8]
  | .rar => [0b00011111#8]
  | .illegal20 => [0b00100000#8]
  | .lxiH d16 => [0b00100001#8, Machine.loByte d16, Machine.hiByte d16]
  | .shld a16 => [0b00100010#8, Machine.loByte a16, Machine.hiByte a16]
  | .inxH => [0b00100011#8]
  | .inrH => [0b00100100#8]
  | .dcrH => [0b00100101#8]
  | .mviH d8 => [0b00100110#8, d8]
  | .daa => [0b00100111#8]
  | .illegal28 => [0b00101000#8]
  | .dadH => [0b00101001#8]
  | .lhld a16 => [0b00101010#8, Machine.loByte a16, Machine.hiByte a16]
  | .dcxH => [0b00101011#8]
  | .inrL => [0b00101100#8]
  | .dcrL => [0b00101101#8]
  | .mviL d8 => [0b00101110#8, d8]
  | .cma => [0b00101111#8]
  | .illegal30 => [0b00110000#8]
  | .lxiSp d16 => [0b00110001#8, Machine.loByte d16, Machine.hiByte d16]
  | .sta a16 => [0b00110010#8, Machine.loByte a16, Machine.hiByte a16]
  | .inxSp => [0b00110011#8]
  | .inrM => [0b00110100#8]
  | .dcrM => [0b00110101#8]
  | .mviM d8 => [0b00110110#8, d8]
  | .stc => [0b00110111#8]
  | .illegal38 => [0b00111000#8]
  | .dadSp => [0b00111001#8]
  | .lda a16 => [0b00111010#8, Machine.loByte a16, Machine.hiByte a16]
  | .dcxSp => [0b00111011#8]
  | .inrA => [0b00111100#8]
  | .dcrA => [0b00111101#8]
  | .mviA d8 => [0b00111110#8, d8]
  | .cmc => [0b00111111#8]
  | .movBB => [0b01000000#8]
  | .movBC => [0b01000001#8]
  | .movBD => [0b01000010#8]
  | .movBE => [0b01000011#8]
  | .movBH => [0b01000100#8]
  | .movBL => [0b01000101#8]
  | .movBM => [0b01000110#8]
  | .movBA => [0b01000111#8]
  | .movCB => [0b01001000#8]
  | .movCC => [0b01001001#8]
  | .movCD => [0b01001010#8]
  | .movCE => [0b01001011#8]
  | .movCH => [0b01001100#8]
  | .movCL => [0b01001101#8]
  | .movCM => [0b01001110#8]
  | .movCA => [0b01001111#8]
  | .movDB => [0b01010000#8]
  | .movDC => [0b01010001#8]
  | .movDD => [0b01010010#8]
  | .movDE => [0b01010011#8]
  | .movDH => [0b01010100#8]
  | .movDL => [0b01010101#8]
  | .movDM => [0b01010110#8]
  | .movDA => [0b01010111#8]
  | .movEB => [0b01011000#8]
  | .movEC => [0b01011001#8]
  | .movED => [0b01011010#8]
  | .movEE => [0b01011011#8]
  | .movEH => [0b01011100#8]
  | .movEL => [0b01011101#8]
  | .movEM => [0b01011110#8]
  | .movEA => [0b01011111#8]
  | .movHB => [0b01100000#8]
  | .movHC => [0b01100001#8]
  | .movHD => [0b01100010#8]
  | .movHE => [0b01100011#8]
  | .movHH => [0b01100100#8]
  | .movHL => [0b01100101#8]
  | .movHM => [0b01100110#8]
  | .movHA => [0b01100111#8]
  | .movLB => [0b01101000#8]
  | .movLC => [0b01101001#8]
  | .movLD => [0b01101010#8]
  | .movLE => [0b01101011#8]
  | .movLH => [0b01101100#8]
  | .movLL => [0b01101101#8]
  | .movLM => [0b01101110#8]
  | .movLA => [0b01101111#8]
  | .movMB => [0b01110000#8]
  | .movMC => [0b01110001#8]
  | .movMD => [0b01110010#8]
  | .movME => [0b01110011#8]
  | .movMH => [0b01110100#8]
  | .movML => [0b01110101#8]
  | .hlt => [0b01110110#8]
  | .movMA => [0b01110111#8]
  | .movAB => [0b01111000#8]
  | .movAC => [0b01111001#8]
  | .movAD => [0b01111010#8]
  | .movAE => [0b01111011#8]
  | .movAH => [0b01111100#8]
  | .movAL => [0b01111101#8]
  | .movAM => [0b01111110#8]
  | .movAA => [0b01111111#8]
  | .addB => [0b10000000#8]
  | .addC => [0b10000001#8]
  | .addD => [0b10000010#8]
  | .addE => [0b10000011#8]
  | .addH => [0b10000100#8]
  | .addL => [0b10000101#8]
  | .addM => [0b10000110#8]
  | .addA => [0b10000111#8]
  | .adcB => [0b10001000#8]
  | .adcC => [0b10001001#8]
  | .adcD => [0b10001010#8]
  | .adcE => [0b10001011#8]
  | .adcH => [0b10001100#8]
  | .adcL => [0b10001101#8]
  | .adcM => [0b10001110#8]
  | .adcA => [0b10001111#8]
  | .subB => [0b10010000#8]
  | .subC => [0b10010001#8]
  | .subD => [0b10010010#8]
  | .subE => [0b10010011#8]
  | .subH => [0b10010100#8]
  | .subL => [0b10010101#8]
  | .subM => [0b10010110#8]
  | .subA => [0b10010111#8]
  | .sbbB => [0b10011000#8]
  | .sbbC => [0b10011001#8]
  | .sbbD => [0b10011010#8]
  | .sbbE => [0b10011011#8]
  | .sbbH => [0b10011100#8]
  | .sbbL => [0b10011101#8]
  | .sbbM => [0b10011110#8]
  | .sbbA => [0b10011111#8]
  | .anaB => [0b10100000#8]
  | .anaC => [0b10100001#8]
  | .anaD => [0b10100010#8]
  | .anaE => [0b10100011#8]
  | .anaH => [0b10100100#8]
  | .anaL => [0b10100101#8]
  | .anaM => [0b10100110#8]
  | .anaA => [0b10100111#8]
  | .xraB => [0b10101000#8]
  | .xraC => [0b10101001#8]
  | .xraD => [0b10101010#8]
  | .xraE => [0b10101011#8]
  | .xraH => [0b10101100#8]
  | .xraL => [0b10101101#8]
  | .xraM => [0b10101110#8]
  | .xraA => [0b10101111#8]
  | .oraB => [0b10110000#8]
  | .oraC => [0b10110001#8]
  | .oraD => [0b10110010#8]
  | .oraE => [0b10110011#8]
  | .oraH => [0b10110100#8]
  | .oraL => [0b10110101#8]
  | .oraM => [0b10110110#8]
  | .oraA => [0b10110111#8]
  | .cmpB => [0b10111000#8]
  | .cmpC => [0b10111001#8]
  | .cmpD => [0b10111010#8]
  | .cmpE => [0b10111011#8]
  | .cmpH => [0b10111100#8]
  | .cmpL => [0b10111101#8]
  | .cmpM => [0b10111110#8]
  | .cmpA => [0b10111111#8]
  | .rnz => [0b11000000#8]
  | .popB => [0b11000001#8]
  | .jnz a16 => [0b11000010#8, Machine.loByte a16, Machine.hiByte a16]
  | .jmp a16 => [0b11000011#8, Machine.loByte a16, Machine.hiByte a16]
  | .cnz a16 => [0b11000100#8, Machine.loByte a16, Machine.hiByte a16]
  | .pushB => [0b11000101#8]
  | .adi d8 => [0b11000110#8, d8]
  | .rst0 => [0b11000111#8]
  | .rz => [0b11001000#8]
  | .ret => [0b11001001#8]
  | .jz a16 => [0b11001010#8, Machine.loByte a16, Machine.hiByte a16]
  | .illegalcb => [0b11001011#8]
  | .cz a16 => [0b11001100#8, Machine.loByte a16, Machine.hiByte a16]
  | .call a16 => [0b11001101#8, Machine.loByte a16, Machine.hiByte a16]
  | .aci d8 => [0b11001110#8, d8]
  | .rst1 => [0b11001111#8]
  | .rnc => [0b11010000#8]
  | .popD => [0b11010001#8]
  | .jnc a16 => [0b11010010#8, Machine.loByte a16, Machine.hiByte a16]
  | .out p8 => [0b11010011#8, p8]
  | .cnc a16 => [0b11010100#8, Machine.loByte a16, Machine.hiByte a16]
  | .pushD => [0b11010101#8]
  | .sui d8 => [0b11010110#8, d8]
  | .rst2 => [0b11010111#8]
  | .rc => [0b11011000#8]
  | .illegald9 => [0b11011001#8]
  | .jc a16 => [0b11011010#8, Machine.loByte a16, Machine.hiByte a16]
  | .inp p8 => [0b11011011#8, p8]
  | .cc a16 => [0b11011100#8, Machine.loByte a16, Machine.hiByte a16]
  | .illegaldd => [0b11011101#8]
  | .sbi d8 => [0b11011110#8, d8]
  | .rst3 => [0b11011111#8]
  | .rpo => [0b11100000#8]
  | .popH => [0b11100001#8]
  | .jpo a16 => [0b11100010#8, Machine.loByte a16, Machine.hiByte a16]
  | .xthl => [0b11100011#8]
  | .cpo a16 => [0b11100100#8, Machine.loByte a16, Machine.hiByte a16]
  | .pushH => [0b11100101#8]
  | .ani d8 => [0b11100110#8, d8]
  | .rst4 => [0b11100111#8]
  | .rpe => [0b11101000#8]
  | .pchl => [0b11101001#8]
  | .jpe a16 => [0b11101010#8, Machine.loByte a16, Machine.hiByte a16]
  | .xchg => [0b11101011#8]
  | .cpe a16 => [0b11101100#8, Machine.loByte a16, Machine.hiByte a16]
  | .illegaled => [0b11101101#8]
  | .xri d8 => [0b11101110#8, d8]
  | .rst5 => [0b11101111#8]
  | .rp => [0b11110000#8]
  | .popPsw => [0b11110001#8]
  | .jp a16 => [0b11110010#8, Machine.loByte a16, Machine.hiByte a16]
  | .di => [0b11110011#8]
  | .cp a16 => [0b11110100#8, Machine.loByte a16, Machine.hiByte a16]
  | .pushPsw => [0b11110101#8]
  | .ori d8 => [0b11110110#8, d8]
  | .rst6 => [0b11110111#8]
  | .rm => [0b11111000#8]
  | .sphl => [0b11111001#8]
  | .jm a16 => [0b11111010#8, Machine.loByte a16, Machine.hiByte a16]
  | .ei => [0b11111011#8]
  | .cm a16 => [0b11111100#8, Machine.loByte a16, Machine.hiByte a16]
  | .illegalfd => [0b11111101#8]
  | .cpi d8 => [0b11111110#8, d8]
  | .rst7 => [0b11111111#8]

/-- The opcode byte of an instruction: the first byte of its encoding. -/
def opcodeOf (i : Instr) : Byte := (encode i).headD 0

/-- The twelve unassigned bytes (R92). -/
def illegalOpcodes : List Byte :=
  [0x08, 0x10, 0x18, 0x20, 0x28, 0x30, 0x38, 0xCB, 0xD9, 0xDD, 0xED, 0xFD]

/-- Whether an opcode byte is one of the twelve (R92). -/
def isIllegal (op : Byte) : Bool := illegalOpcodes.contains op

/-- The instruction the decoder reads from the bits `w`, byte 0 the least significant and first in memory, the bits from
`nbits` up being 0; an instruction has at most 3 bytes (R84). -/
def decodeTableWord (nbits w : Nat) : Option Instr :=
  let bits := w % 2 ^ nbits
  match decode [BitVec.ofNat 8 bits, BitVec.ofNat 8 (bits / 0x100), BitVec.ofNat 8 (bits / 0x10000)] with
  | .ok (i, _) => some i
  | .error _ => none

end Sys2Proof
end

