-- ==== Sys2Proof/Machine/State.lean ====
section
/-! DEFINITION. The state of the core (10_state.md R20 to R40) as plain data, the reasons a step can stop, the state after
reset (R44, R302). The parameters of R9 stand in the record too, as `cfg` (log 1). -/

namespace Sys2Proof.Machine

/-- The seven byte registers (R20, R21, R22). The eighth register code, M, is memory at HL and no register (R24). -/
inductive Reg where
  | b | c | d | e | h | l | a
  deriving DecidableEq, Repr

/-- The byte registers' contents (R20). -/
structure Regs where
  b : Byte
  c : Byte
  d : Byte
  e : Byte
  h : Byte
  l : Byte
  a : Byte
  deriving DecidableEq, Repr

/-- The five condition flags, "five independent booleans" (R28). -/
structure Flags where
  s  : Bool
  z  : Bool
  ac : Bool
  p  : Bool
  cy : Bool
  deriving DecidableEq, Repr

/-- An entry of the diagnostic log (R38) with what each condition records: IllegalWrite R251, ProgramCounterOverflow R252,
FatalDecodeError R253. -/
inductive Report where
  | illegalWrite (addr : Word) (value : Byte) (pc : Word)
  | programCounterOverflow (pc : Word)
  | fatalDecodeError (opcode : Byte) (addr : Word)
  deriving DecidableEq, Repr

/-- MEM (R40, R50): the bytes that differ from what an unlisted address reads as, by rising address. -/
abbrev Memory := List Host.Cell

/-- What an address that is not listed reads as: 0x00, the reset contents of R44 and R300 (log 5). -/
def Memory.unlisted : Byte := 0x00

/-- The canonical form from address `lo` on: rising addresses inside the 64 KiB space, no entry equal to the unlisted byte. -/
def Memory.wfFrom (lo : Nat) : Memory → Bool
  | [] => true
  | (a, v) :: rest => decide (lo ≤ a) && decide (a < memSize) && (v != Memory.unlisted) && Memory.wfFrom (a + 1) rest

/-- The canonical form of memory: equal memories are equal lists. -/
def Memory.wf (m : Memory) : Bool := Memory.wfFrom 0 m

/-- The state of the core. `regs`, `sp`, `pc`, `flags`: R20 to R28. `inte`, `halted`, `sr`, `soff`, `cyc`, `diag`: R33 to
R38. `inLatch`, `outLatch`: R39. `mem`: R40. `cfg`: the parameters of R9, fixed for a machine (R41, log 1). -/
structure State where
  regs     : Regs
  sp       : Word
  pc       : Word
  flags    : Flags
  inte     : Bool
  halted   : Bool
  sr       : Word
  soff     : BitVec 3
  cyc      : Nat
  diag     : List Report
  inLatch  : Vector Byte 4
  outLatch : Vector Byte 7
  mem      : Memory
  cfg      : Config
  deriving DecidableEq, Repr

/-- Why the machine stops with no next state. -/
inductive Fault where
  /-- Raised by `step` in a state with HALTED = 1, which "has no step" (R80, R306). Safe: the core takes no step there (log 6). -/
  | halted
  deriving DecidableEq, Repr

/-- Why the model gives a step or a host call no meaning. -/
inductive Refusal where
  /-- Raised by an arm of `exec` whose instruction has no meaning yet. Safe. No arm of this model raises it. -/
  | notModelled (mnemonic : String)
  /-- Raised by IN with a port 4..255: "refused (no meaning in the model)" (R66, R240; log 7). Safe. -/
  | inPortWithoutLatch (port : Byte)
  /-- Raised by OUT with a port 7..255: "refused for ports 7..255" (R67, R241; log 7). Safe. -/
  | outPortWithoutLatch (port : Byte)
  /-- Raised by the host call raise_interrupt with INTE = 1 and an id outside INT_VECTOR_MAP (R262, D12). Safe. -/
  | interruptIdNotMapped (id : Nat)
  /-- Raised by the host call read_memory at an address of 0x10000 or more (R76, D26). Safe. -/
  | hostReadOutOfRange (addr : Nat)
  deriving DecidableEq, Repr

/-- What executing an instruction or a host call answers. -/
abbrev Result := Host.Outcome State Fault Refusal

/-- The state of R44 for a choice of the parameters, before an image is copied in. -/
def State.initial (cfg : Config) : State where
  regs     := ⟨0, 0, 0, 0, 0, 0, 0⟩
  sp       := cfg.spReset
  pc       := loadAddr cfg.mode
  flags    := ⟨false, false, false, false, false⟩
  inte     := false
  halted   := false
  sr       := 0
  soff     := 0
  cyc      := 0
  diag     := []
  inLatch  := Vector.replicate 4 0
  outLatch := Vector.replicate 7 0
  mem      := []
  cfg      := cfg

/-- The machine right after reset (R44, R302) with the parameters of `Config.default` (log 2, log 3) and the empty image,
which loads (R301): memory zero everywhere. -/
def State.reset : State := State.initial Config.default

end Sys2Proof.Machine
end

