-- ==== Sys2Proof/Machine/Memory.lean ====
section
/-! DEFINITION. Memory as a list of cells in canonical form: reading a byte, writing a byte, the cells of a loaded image
(20_memory.md R50, R53; 70_reset_and_hazards.md R300). -/

namespace Sys2Proof.Machine

/-- `MEM[a]` (R50, R53). -/
def Memory.read : Memory → Nat → Byte
  | [], _ => Memory.unlisted
  | (b, v) :: rest, a => if b = a then v else Memory.read rest a

/-- Memory with no entry at `a`. -/
def Memory.without (m : Memory) (a : Nat) : Memory := m.filter fun c => c.1 != a

/-- Memory with the entry `(a, v)` put before the first higher address. -/
def Memory.insert : Memory → Nat → Byte → Memory
  | [], a, v => [(a, v)]
  | (b, w) :: rest, a, v => if a < b then (a, v) :: (b, w) :: rest else (b, w) :: Memory.insert rest a v

/-- `MEM[a] <- v`, keeping the canonical form: writing the byte an unlisted address reads as only takes the entry out. -/
def Memory.write (m : Memory) (a : Nat) (v : Byte) : Memory :=
  if v = Memory.unlisted then m.without a else (m.without a).insert a v

/-- The cells of an image copied to `base`, `base + 1`, … into zeroed memory (R300). -/
def Memory.ofImage (base : Nat) : List Byte → Memory
  | [] => []
  | v :: rest =>
    if v = Memory.unlisted then Memory.ofImage (base + 1) rest
    else (base, v) :: Memory.ofImage (base + 1) rest

end Sys2Proof.Machine
end

