-- ==== Sys2Proof/Machine/Ops.lean ====
section
/-! DEFINITION. The named operations every instruction is built from: the diagnostic log and the error conditions
(60_exceptions.md R250 to R256), memory access under the write policy (20_memory.md R53 to R61), instruction bytes (R59),
the PC advance (30_encoding.md R87 to R89), the stack primitives (44_branch.md R180, R181), the restart primitive (R185),
taking an interrupt and returning from one (R262, R266), the ports and the shift device (R66 to R70), cycle accounting (R82). -/

namespace Sys2Proof.Machine

/-- The named byte register's contents. -/
def Regs.get (r : Regs) : Reg → Byte
  | .b => r.b
  | .c => r.c
  | .d => r.d
  | .e => r.e
  | .h => r.h
  | .l => r.l
  | .a => r.a

/-- The register file with one register written. -/
def Regs.set (r : Regs) (x : Reg) (v : Byte) : Regs :=
  match x with
  | .b => { r with b := v }
  | .c => { r with c := v }
  | .d => { r with d := v }
  | .e => { r with e := v }
  | .h => { r with h := v }
  | .l => { r with l := v }
  | .a => { r with a := v }

def State.setRegs (s : State) (r : Regs) : State := { s with regs := r }

def State.setA (s : State) (v : Byte) : State := { s with regs := { s.regs with a := v } }

def State.setSp (s : State) (v : Word) : State := { s with sp := v }

def State.setPc (s : State) (v : Word) : State := { s with pc := v }

def State.setFlags (s : State) (f : Flags) : State := { s with flags := f }

def State.setInte (s : State) (b : Bool) : State := { s with inte := b }

def State.setHalted (s : State) (b : Bool) : State := { s with halted := b }

def State.setSr (s : State) (v : Word) : State := { s with sr := v }

def State.setSoff (s : State) (v : BitVec 3) : State := { s with soff := v }

def State.setCyc (s : State) (n : Nat) : State := { s with cyc := n }

def State.setMem (s : State) (m : Memory) : State := { s with mem := m }

def State.setInLatch (s : State) (v : Vector Byte 4) : State := { s with inLatch := v }

def State.setOutLatch (s : State) (v : Vector Byte 7) : State := { s with outLatch := v }

/-- `report E(info)`: append to DIAG (R38, R250). -/
def State.report (s : State) (r : Report) : State := { s with diag := s.diag ++ [r] }

/-- `raise E(info)` for the conditions whose consequence is a halt (R250, R252, R253): report, then HALTED <- 1. -/
def raiseHalting (r : Report) (s : State) : State := (s.report r).setHalted true

/-- The cause code of a condition (R251 to R253, D38): a name only, which no program can read. RomTooLarge, code 4, is a
result of `load` and no entry of DIAG (R254). -/
def Report.causeCode : Report → Nat
  | .illegalWrite .. => 1
  | .programCounterOverflow .. => 2
  | .fatalDecodeError .. => 3

/-- `HL = H ++ L`, the address register of M (R22). -/
def hl (s : State) : Word := joinBytes s.regs.h s.regs.l

/-- `MemRead(a, 1)` (R53). -/
def memRead (a : Word) (s : State) : Byte := s.mem.read a.toNat

/-- The write-address wrap WA (R54). -/
def wrapAddr (a : Nat) : Nat := if a < memSize then a else a % romSize + romSize

/-- Whether the write policy suppresses a write to the wrapped address `a` (R55, R56). -/
def protectedAddr (a : Nat) (s : State) : Bool := s.cfg.mode == .arcade && decide (a < romSize)

/-- `MemWrite(a, 1, v)` (R55): wrap, then store, or report IllegalWrite with the current PC and, in strict mode, halt. -/
def memWrite (a : Nat) (v : Byte) (s : State) : State :=
  if protectedAddr (wrapAddr a) s then
    let reported := s.report (.illegalWrite (BitVec.ofNat 16 (wrapAddr a)) v s.pc)
    if s.cfg.strictIllegalWrite then reported.setHalted true else reported
  else
    s.setMem (s.mem.write (wrapAddr a) v)

/-- The second-byte write address of SHLD and XTHL (R57): unreduced under WIDE_WRITE_FOLD, else modulo 2^16. -/
def secondByteAddr (a : Word) (s : State) : Nat :=
  if s.cfg.wideWriteFold then a.toNat + 1 else (a.toNat + 1) % memSize

/-- `Read16(a)` (R60). -/
def read16 (a : Word) (s : State) : Word := joinBytes (memRead (a + 1) s) (memRead a s)

/-- `Write16(a, v)` (R61): the low byte at a, then the high byte at the second-byte address. -/
def write16 (a : Word) (v : Word) (s : State) : State :=
  memWrite (secondByteAddr a s) (hiByte v) (memWrite a.toNat (loByte v) s)

/-- Up to `n` bytes of memory from address `a` on; none at or above 0x10000 (R59, R87). -/
def bytesFrom (m : Memory) : Nat → Nat → List Byte
  | 0, _ => []
  | n + 1, a => if a < memSize then m.read a :: bytesFrom m n (a + 1) else []

/-- The bytes an instruction at PC can have: the opcode and up to two operand bytes, all read before any effect (R59, R74, R81). -/
def fetchBytes (s : State) : List Byte := bytesFrom s.mem 3 s.pc.toNat

/-- Place bytes in memory from address `a` on, past the write protection, as a load does (R300). -/
def placeBytes (m : Memory) : Nat → List Byte → Memory
  | _, [] => m
  | a, v :: rest => if a < memSize then placeBytes (m.write a v) (a + 1) rest else m

/-- `seq(n)`, the sequential advance (R88), with form (a) of ProgramCounterOverflow (R252). -/
def seq (n : Nat) (s : State) : State :=
  if s.pc.toNat + n < memSize then s.setPc (BitVec.ofNat 16 (s.pc.toNat + n))
  else raiseHalting (.programCounterOverflow s.pc) (s.setPc (BitVec.ofNat 16 ((s.pc.toNat + n) % memSize)))

/-- Form (b) of ProgramCounterOverflow (R87, R252): the instruction does not fit below 0x10000 and is not executed. -/
def straddleOverflow (s : State) : State := raiseHalting (.programCounterOverflow s.pc) s

/-- FatalDecodeError (R92, R253): reported with the opcode and its address, HALTED <- 1, nothing else. -/
def fatalDecodeError (op : Byte) (s : State) : State := raiseHalting (.fatalDecodeError op s.pc) s

/-- `push16(v)` (R180): high byte at SP - 1, low byte at SP - 2, then SP decreases by 2. -/
def push16 (v : Word) (s : State) : State :=
  (memWrite (s.sp - 2).toNat (loByte v) (memWrite (s.sp - 1).toNat (hiByte v) s)).setSp (s.sp - 2)

/-- `pop16()` (R181): low byte at SP, high byte at SP + 1, then SP increases by 2. -/
def pop16 (s : State) : Word × State :=
  (joinBytes (memRead (s.sp + 1) s) (memRead s.sp s), s.setSp (s.sp + 2))

/-- The RST vector of number n: n * 8 (R86, R185, R214). -/
def rstVector (n : BitVec 3) : Word := BitVec.ofNat 16 (n.toNat * 8)

/-- `reset(vector)`, the restart primitive (R185): push PC + 1, then PC <- vector. -/
def restart (n : BitVec 3) (s : State) : State := (push16 (s.pc + 1) s).setPc (rstVector n)

/-- Interrupt acceptance, the trap entry (R262): INTE <- 0, PC <- PC - 1, the restart primitive, and, with HALT_WAKE, HALTED <- 0
(R264). The net effect pushes the interrupted PC. -/
def acceptInterrupt (n : BitVec 3) (s : State) : State :=
  let entered := restart n ((s.setInte false).setPc (s.pc - 1))
  if s.cfg.haltWake then entered.setHalted false else entered

/-- The return from an interrupt handler: RET's own effect, PC <- pop16() (R205, R266). Nothing else is restored. -/
def returnToPopped (s : State) : State := (pop16 s).2.setPc (pop16 s).1

/-- `ShiftRead()` (R70). -/
def shiftRead (s : State) : Byte :=
  match s.cfg.shiftReadMode with
  | .low => (s.sr >>> (8 - s.soff.toNat)).setWidth 8
  | .literalHigh => (s.sr >>> (16 - s.soff.toNat)).setWidth 8

/-- OUT to port 4 (R68): the old high byte moves down and `v` becomes the high byte. -/
def shiftLoad (v : Byte) (sr : Word) : Word := (sr >>> 8) ||| (v.setWidth 16 <<< 8)

/-- `PortIn(p)` (R66): the latches 0, 1, 2 and the shift window at 3; no other port has a meaning. -/
def portIn (p : Byte) (s : State) : Option Byte :=
  match p.toNat with
  | 0 => some s.inLatch[0]
  | 1 => some s.inLatch[1]
  | 2 => some s.inLatch[2]
  | 3 => some (shiftRead s)
  | _ => none

/-- `PortOut(p, v)` (R67): the shift device at 2 and 4, the latches 0, 1, 3, 5, 6; no other port has a meaning. -/
def portOut (p v : Byte) (s : State) : Option State :=
  match p.toNat with
  | 0 => some (s.setOutLatch (s.outLatch.set 0 v))
  | 1 => some (s.setOutLatch (s.outLatch.set 1 v))
  | 2 => some (s.setSoff (v.setWidth 3))
  | 3 => some (s.setOutLatch (s.outLatch.set 3 v))
  | 4 => some (s.setSr (shiftLoad v s.sr))
  | 5 => some (s.setOutLatch (s.outLatch.set 5 v))
  | 6 => some (s.setOutLatch (s.outLatch.set 6 v))
  | _ => none

/-- CYCLE_COST(op) (R82): the configured cost of an opcode byte. -/
def cycleCostOf (cfg : Config) (op : Byte) : Nat := cfg.cycleCost[op.toNat]'(op.isLt)

/-- `CYC <- CYC + CYCLE_COST(op)` (R82). -/
def addCycles (op : Byte) (s : State) : State := s.setCyc (s.cyc + cycleCostOf s.cfg op)

end Sys2Proof.Machine
end

