-- ==== Sys2Proof/Machine/Operands.lean ====
section
/-! DEFINITION. The operand forms: the register codes with M (10_state.md R24, R25), the ALU operand (41_arithmetic.md
R124), the register pairs (R22, R26), the condition codes (44_branch.md R186). -/

namespace Sys2Proof.Machine

/-- What a 3-bit register code names (R24): one of seven registers, or M, memory at HL (code 6). -/
inductive Place where
  | reg (r : Reg)
  | m
  deriving DecidableEq, Repr

/-- The ALU operand of R124: a register, M, or the instruction's imm8. -/
inductive Source where
  | reg (r : Reg)
  | m
  | imm (v : Byte)
  deriving DecidableEq, Repr

/-- What a 2-bit pair code names (R26): 0 BC, 1 DE, 2 HL, 3 SP. -/
inductive Pair where
  | bc
  | de
  | hl
  | sp
  deriving DecidableEq, Repr

/-- The eight conditions of R186, in the order of their codes. -/
inductive Condition where
  | nz | z | nc | c | po | pe | p | m
  deriving DecidableEq, Repr

/-- `reg(r)` (R24). -/
def readPlace (x : Place) (s : State) : Byte :=
  match x with
  | .reg r => s.regs.get r
  | .m => memRead (hl s) s

/-- `reg(r) <- v` (R25); a write to M follows the write policy of R55. -/
def writePlace (x : Place) (v : Byte) (s : State) : State :=
  match x with
  | .reg r => s.setRegs (s.regs.set r v)
  | .m => memWrite (hl s).toNat v s

/-- The value of an ALU operand (R124) or of a source of MOV and MVI (R100 to R104). -/
def readSource (x : Source) (s : State) : Byte :=
  match x with
  | .reg r => s.regs.get r
  | .m => memRead (hl s) s
  | .imm v => v

/-- `pairR(rp)` (R26). -/
def readPair (x : Pair) (s : State) : Word :=
  match x with
  | .bc => joinBytes s.regs.b s.regs.c
  | .de => joinBytes s.regs.d s.regs.e
  | .hl => hl s
  | .sp => s.sp

/-- `pairW(rp, v)` (R22, R26): the first-named register takes `v[15:8]`. -/
def writePair (x : Pair) (v : Word) (s : State) : State :=
  match x with
  | .bc => s.setRegs { s.regs with b := hiByte v, c := loByte v }
  | .de => s.setRegs { s.regs with d := hiByte v, e := loByte v }
  | .hl => s.setRegs { s.regs with h := hiByte v, l := loByte v }
  | .sp => s.setSp v

/-- `cond(ccc)` (R186): reads flags only. -/
def Condition.holds (x : Condition) (f : Flags) : Bool :=
  match x with
  | .nz => !f.z
  | .z => f.z
  | .nc => !f.cy
  | .c => f.cy
  | .po => !f.p
  | .pe => f.p
  | .p => !f.s
  | .m => f.s

end Sys2Proof.Machine
end

