-- ==== Sys2Proof/Machine/Flags.lean ====
section
/-! DEFINITION. The flag computations: the packed flags byte (10_state.md R29), ZSP (R30), the ALU primitives add8 and sub8
(41_arithmetic.md R120, R121), the logical flags (R122, R123), the DAA correction (R141), the 17-bit sum of DAD (R140). -/

namespace Sys2Proof.Machine

/-- A u8 result with the carry (or borrow) and auxiliary carry it produces (R120, R121). -/
structure AluResult where
  value : Byte
  cy    : Bool
  ac    : Bool
  deriving DecidableEq, Repr

/-- `FLAGS_BYTE()` (R29): S Z 0 AC 0 P 1 CY, from bit 7 down. -/
def flagsByte (f : Flags) : Byte :=
  BitVec.ofBool f.s ++ BitVec.ofBool f.z ++ 0#1 ++ BitVec.ofBool f.ac
    ++ 0#1 ++ BitVec.ofBool f.p ++ 1#1 ++ BitVec.ofBool f.cy

/-- `write_flags(f)` (R29): bits 7, 6, 4, 2, 0; bits 5, 3 and 1 are ignored. -/
def flagsOfByte (v : Byte) : Flags where
  s  := v.getLsbD 7
  z  := v.getLsbD 6
  ac := v.getLsbD 4
  p  := v.getLsbD 2
  cy := v.getLsbD 0

/-- `ZSP(v)` (R30): S, Z and P from a result; AC and CY are kept. -/
def zsp (v : Byte) (f : Flags) : Flags :=
  { f with s := v.getLsbD 7, z := v == 0, p := popcount v % 2 == 0 }

/-- `add8(a, b, cin)` (R120). -/
def add8 (a b : Byte) (cin : Bool) : AluResult where
  value := BitVec.ofNat 8 (a.toNat + b.toNat + cin.toNat)
  cy    := decide (255 < a.toNat + b.toNat + cin.toNat)
  ac    := decide (0x0F < (a &&& 0x0F).toNat + (b &&& 0x0F).toNat + cin.toNat)

/-- `sub8(a, b, bin)` (R121): CY is the borrow, AC the carry out of bit 3 of `a + ~b + (1 - bin)`. -/
def sub8 (a b : Byte) (bin : Bool) : AluResult where
  value := BitVec.ofInt 8 ((a.toNat : Int) - b.toNat - bin.toNat)
  cy    := decide ((a.toNat : Int) - b.toNat - bin.toNat < 0)
  ac    := decide (0x0F < (a &&& 0x0F).toNat + (~~~b &&& 0x0F).toNat + (1 - bin.toNat))

/-- The flags of an addition or subtraction: S Z AC P CY all computed (R126 to R133). -/
def arithFlags (x : AluResult) (f : Flags) : Flags :=
  zsp x.value { f with cy := x.cy, ac := x.ac }

/-- The flags of INR and DCR: S Z AC P; CY is not written (R134 to R137). -/
def stepFlags (x : AluResult) (f : Flags) : Flags :=
  zsp x.value { f with ac := x.ac }

/-- The AND flags of R122, with AC as ANA_AC_MODE says. -/
def andFlags (mode : AnaAcMode) (a b : Byte) (f : Flags) : Flags :=
  let ac := match mode with
    | .orBit3 => (a ||| b).getLsbD 3
    | .zero => false
  zsp (a &&& b) { f with cy := false, ac := ac }

/-- The OR and XOR flags of R123: CY and AC cleared, S Z P from the result. -/
def orFlags (r : Byte) (f : Flags) : Flags := zsp r { f with cy := false, ac := false }

/-- The correction byte of DAA and whether it sets CY (R141). -/
def daaCorrection (a : Byte) (f : Flags) : Byte × Bool :=
  let lo := (a &&& 0x0F).toNat
  let hi := (a >>> 4).toNat
  let low : Byte := if f.ac || decide (9 < lo) then 0x06 else 0x00
  if f.cy || decide (9 < hi) || (decide (9 ≤ hi) && decide (9 < lo)) then (low ||| 0x60, true)
  else (low, f.cy)

end Sys2Proof.Machine
end

