-- ==== Sys2Proof/Machine/Arithmetic.lean ====
section
/-! DEFINITION. Arithmetic (41_arithmetic.md R126 to R141) on the ALU primitives of Flags.lean. -/

namespace Sys2Proof.Machine

/-- ADD, ADC and their immediate forms (R126 to R129, R162, R163). -/
def addToA (src : Source) (cin : Bool) (n : Nat) (s : State) : Result :=
  let x := add8 s.regs.a (readSource src s) cin
  .next (seq n ((s.setA x.value).setFlags (arithFlags x s.flags)))

/-- SUB, SBB and their immediate forms (R130 to R133, R164, R165). -/
def subFromA (src : Source) (bin : Bool) (n : Nat) (s : State) : Result :=
  let x := sub8 s.regs.a (readSource src s) bin
  .next (seq n ((s.setA x.value).setFlags (arithFlags x s.flags)))

/-- INR (R134, R135): the flags are written even when the write to M is suppressed. -/
def increment (x : Place) (s : State) : Result :=
  let r := add8 (readPlace x s) 1 false
  .next (seq 1 ((writePlace x r.value s).setFlags (stepFlags r s.flags)))

/-- DCR (R136, R137): the flags are written even when the write to M is suppressed. -/
def decrement (x : Place) (s : State) : Result :=
  let r := sub8 (readPlace x s) 1 false
  .next (seq 1 ((writePlace x r.value s).setFlags (stepFlags r s.flags)))

/-- DAD (R140): CY is the carry out of bit 15; no other flag is written. -/
def addToHl (rp : Pair) (s : State) : Result :=
  let t := (hl s).toNat + (readPair rp s).toNat
  .next (seq 1 ((writePair .hl (BitVec.ofNat 16 t) s).setFlags { s.flags with cy := decide (0xFFFF < t) }))

/-- DAA (R141). -/
def decimalAdjust (s : State) : Result :=
  let corr := daaCorrection s.regs.a s.flags
  let x := add8 s.regs.a corr.1 false
  .next (seq 1 ((s.setA x.value).setFlags (zsp x.value { s.flags with cy := corr.2, ac := x.ac })))

/-- INX B (R138). -/
def execInxB (s : State) : Result := .next (seq 1 (writePair .bc (readPair .bc s + 1) s))

/-- INR B (R134). -/
def execInrB (s : State) : Result := increment (.reg .b) s

/-- DCR B (R136). -/
def execDcrB (s : State) : Result := decrement (.reg .b) s

/-- DAD B (R140). -/
def execDadB (s : State) : Result := addToHl .bc s

/-- DCX B (R139). -/
def execDcxB (s : State) : Result := .next (seq 1 (writePair .bc (readPair .bc s - 1) s))

/-- INR C (R134). -/
def execInrC (s : State) : Result := increment (.reg .c) s

/-- DCR C (R136). -/
def execDcrC (s : State) : Result := decrement (.reg .c) s

/-- INX D (R138). -/
def execInxD (s : State) : Result := .next (seq 1 (writePair .de (readPair .de s + 1) s))

/-- INR D (R134). -/
def execInrD (s : State) : Result := increment (.reg .d) s

/-- DCR D (R136). -/
def execDcrD (s : State) : Result := decrement (.reg .d) s

/-- DAD D (R140). -/
def execDadD (s : State) : Result := addToHl .de s

/-- DCX D (R139). -/
def execDcxD (s : State) : Result := .next (seq 1 (writePair .de (readPair .de s - 1) s))

/-- INR E (R134). -/
def execInrE (s : State) : Result := increment (.reg .e) s

/-- DCR E (R136). -/
def execDcrE (s : State) : Result := decrement (.reg .e) s

/-- INX H (R138). -/
def execInxH (s : State) : Result := .next (seq 1 (writePair .hl (readPair .hl s + 1) s))

/-- INR H (R134). -/
def execInrH (s : State) : Result := increment (.reg .h) s

/-- DCR H (R136). -/
def execDcrH (s : State) : Result := decrement (.reg .h) s

/-- DAA (R141). -/
def execDaa (s : State) : Result := decimalAdjust s

/-- DAD H (R140). -/
def execDadH (s : State) : Result := addToHl .hl s

/-- DCX H (R139). -/
def execDcxH (s : State) : Result := .next (seq 1 (writePair .hl (readPair .hl s - 1) s))

/-- INR L (R134). -/
def execInrL (s : State) : Result := increment (.reg .l) s

/-- DCR L (R136). -/
def execDcrL (s : State) : Result := decrement (.reg .l) s

/-- INX SP (R138). -/
def execInxSp (s : State) : Result := .next (seq 1 (writePair .sp (readPair .sp s + 1) s))

/-- INR M (R135). -/
def execInrM (s : State) : Result := increment .m s

/-- DCR M (R137). -/
def execDcrM (s : State) : Result := decrement .m s

/-- DAD SP (R140). -/
def execDadSp (s : State) : Result := addToHl .sp s

/-- DCX SP (R139). -/
def execDcxSp (s : State) : Result := .next (seq 1 (writePair .sp (readPair .sp s - 1) s))

/-- INR A (R134). -/
def execInrA (s : State) : Result := increment (.reg .a) s

/-- DCR A (R136). -/
def execDcrA (s : State) : Result := decrement (.reg .a) s

/-- ADD B (R126). -/
def execAddB (s : State) : Result := addToA (.reg .b) false 1 s

/-- ADD C (R126). -/
def execAddC (s : State) : Result := addToA (.reg .c) false 1 s

/-- ADD D (R126). -/
def execAddD (s : State) : Result := addToA (.reg .d) false 1 s

/-- ADD E (R126). -/
def execAddE (s : State) : Result := addToA (.reg .e) false 1 s

/-- ADD H (R126). -/
def execAddH (s : State) : Result := addToA (.reg .h) false 1 s

/-- ADD L (R126). -/
def execAddL (s : State) : Result := addToA (.reg .l) false 1 s

/-- ADD M (R127). -/
def execAddM (s : State) : Result := addToA .m false 1 s

/-- ADD A (R126). -/
def execAddA (s : State) : Result := addToA (.reg .a) false 1 s

/-- ADC B (R128). -/
def execAdcB (s : State) : Result := addToA (.reg .b) s.flags.cy 1 s

/-- ADC C (R128). -/
def execAdcC (s : State) : Result := addToA (.reg .c) s.flags.cy 1 s

/-- ADC D (R128). -/
def execAdcD (s : State) : Result := addToA (.reg .d) s.flags.cy 1 s

/-- ADC E (R128). -/
def execAdcE (s : State) : Result := addToA (.reg .e) s.flags.cy 1 s

/-- ADC H (R128). -/
def execAdcH (s : State) : Result := addToA (.reg .h) s.flags.cy 1 s

/-- ADC L (R128). -/
def execAdcL (s : State) : Result := addToA (.reg .l) s.flags.cy 1 s

/-- ADC M (R129). -/
def execAdcM (s : State) : Result := addToA .m s.flags.cy 1 s

/-- ADC A (R128). -/
def execAdcA (s : State) : Result := addToA (.reg .a) s.flags.cy 1 s

/-- SUB B (R130). -/
def execSubB (s : State) : Result := subFromA (.reg .b) false 1 s

/-- SUB C (R130). -/
def execSubC (s : State) : Result := subFromA (.reg .c) false 1 s

/-- SUB D (R130). -/
def execSubD (s : State) : Result := subFromA (.reg .d) false 1 s

/-- SUB E (R130). -/
def execSubE (s : State) : Result := subFromA (.reg .e) false 1 s

/-- SUB H (R130). -/
def execSubH (s : State) : Result := subFromA (.reg .h) false 1 s

/-- SUB L (R130). -/
def execSubL (s : State) : Result := subFromA (.reg .l) false 1 s

/-- SUB M (R131). -/
def execSubM (s : State) : Result := subFromA .m false 1 s

/-- SUB A (R130). -/
def execSubA (s : State) : Result := subFromA (.reg .a) false 1 s

/-- SBB B (R132). -/
def execSbbB (s : State) : Result := subFromA (.reg .b) s.flags.cy 1 s

/-- SBB C (R132). -/
def execSbbC (s : State) : Result := subFromA (.reg .c) s.flags.cy 1 s

/-- SBB D (R132). -/
def execSbbD (s : State) : Result := subFromA (.reg .d) s.flags.cy 1 s

/-- SBB E (R132). -/
def execSbbE (s : State) : Result := subFromA (.reg .e) s.flags.cy 1 s

/-- SBB H (R132). -/
def execSbbH (s : State) : Result := subFromA (.reg .h) s.flags.cy 1 s

/-- SBB L (R132). -/
def execSbbL (s : State) : Result := subFromA (.reg .l) s.flags.cy 1 s

/-- SBB M (R133). -/
def execSbbM (s : State) : Result := subFromA .m s.flags.cy 1 s

/-- SBB A (R132). -/
def execSbbA (s : State) : Result := subFromA (.reg .a) s.flags.cy 1 s

end Sys2Proof.Machine
end

