-- ==== Sys2Proof/Machine/Branch.lean ====
section
/-! DEFINITION. Jumps, calls, returns, restarts (44_branch.md R182 to R214). No instruction of this family writes a flag. -/

namespace Sys2Proof.Machine

/-- `conditional_jump(cond)` (R182): a taken transfer has no overflow check (R89). -/
def conditionalJump (c : Bool) (target : Word) (s : State) : Result :=
  .next (if c then s.setPc target else seq 3 s)

/-- `conditional_call(cond)` (R183): taken, it pushes PC + 3 modulo 2^16. -/
def conditionalCall (c : Bool) (target : Word) (s : State) : Result :=
  .next (if c then (push16 (s.pc + 3) s).setPc target else seq 3 s)

/-- `conditional_return(cond)` (R184). -/
def conditionalReturn (c : Bool) (s : State) : Result :=
  .next (if c then returnToPopped s else seq 1 s)

/-- RNZ (R206). -/
def execRnz (s : State) : Result := conditionalReturn (Condition.holds .nz s.flags) s

/-- JNZ a16 (R188). -/
def execJnz (a16 : Word) (s : State) : Result := conditionalJump (Condition.holds .nz s.flags) a16 s

/-- JMP a16 (R187). -/
def execJmp (a16 : Word) (s : State) : Result := conditionalJump true a16 s

/-- CNZ a16 (R197). -/
def execCnz (a16 : Word) (s : State) : Result := conditionalCall (Condition.holds .nz s.flags) a16 s

/-- RST 0 (R214). -/
def execRst0 (s : State) : Result := .next (restart 0 s)

/-- RZ (R207). -/
def execRz (s : State) : Result := conditionalReturn (Condition.holds .z s.flags) s

/-- RET (R205). -/
def execRet (s : State) : Result := conditionalReturn true s

/-- JZ a16 (R189). -/
def execJz (a16 : Word) (s : State) : Result := conditionalJump (Condition.holds .z s.flags) a16 s

/-- CZ a16 (R198). -/
def execCz (a16 : Word) (s : State) : Result := conditionalCall (Condition.holds .z s.flags) a16 s

/-- CALL a16 (R196). -/
def execCall (a16 : Word) (s : State) : Result := conditionalCall true a16 s

/-- RST 1 (R214). -/
def execRst1 (s : State) : Result := .next (restart 1 s)

/-- RNC (R208). -/
def execRnc (s : State) : Result := conditionalReturn (Condition.holds .nc s.flags) s

/-- JNC a16 (R190). -/
def execJnc (a16 : Word) (s : State) : Result := conditionalJump (Condition.holds .nc s.flags) a16 s

/-- CNC a16 (R199). -/
def execCnc (a16 : Word) (s : State) : Result := conditionalCall (Condition.holds .nc s.flags) a16 s

/-- RST 2 (R214). -/
def execRst2 (s : State) : Result := .next (restart 2 s)

/-- RC (R209). -/
def execRc (s : State) : Result := conditionalReturn (Condition.holds .c s.flags) s

/-- JC a16 (R191). -/
def execJc (a16 : Word) (s : State) : Result := conditionalJump (Condition.holds .c s.flags) a16 s

/-- CC a16 (R200). -/
def execCc (a16 : Word) (s : State) : Result := conditionalCall (Condition.holds .c s.flags) a16 s

/-- RST 3 (R214). -/
def execRst3 (s : State) : Result := .next (restart 3 s)

/-- RPO (R210). -/
def execRpo (s : State) : Result := conditionalReturn (Condition.holds .po s.flags) s

/-- JPO a16 (R192). -/
def execJpo (a16 : Word) (s : State) : Result := conditionalJump (Condition.holds .po s.flags) a16 s

/-- CPO a16 (R201). -/
def execCpo (a16 : Word) (s : State) : Result := conditionalCall (Condition.holds .po s.flags) a16 s

/-- RST 4 (R214). -/
def execRst4 (s : State) : Result := .next (restart 4 s)

/-- RPE (R211). -/
def execRpe (s : State) : Result := conditionalReturn (Condition.holds .pe s.flags) s

/-- JPE a16 (R193). -/
def execJpe (a16 : Word) (s : State) : Result := conditionalJump (Condition.holds .pe s.flags) a16 s

/-- CPE a16 (R202). -/
def execCpe (a16 : Word) (s : State) : Result := conditionalCall (Condition.holds .pe s.flags) a16 s

/-- RST 5 (R214). -/
def execRst5 (s : State) : Result := .next (restart 5 s)

/-- RP (R212). -/
def execRp (s : State) : Result := conditionalReturn (Condition.holds .p s.flags) s

/-- JP a16 (R194). -/
def execJp (a16 : Word) (s : State) : Result := conditionalJump (Condition.holds .p s.flags) a16 s

/-- CP a16 (R203). -/
def execCp (a16 : Word) (s : State) : Result := conditionalCall (Condition.holds .p s.flags) a16 s

/-- RST 6 (R214). -/
def execRst6 (s : State) : Result := .next (restart 6 s)

/-- RM (R213). -/
def execRm (s : State) : Result := conditionalReturn (Condition.holds .m s.flags) s

/-- JM a16 (R195). -/
def execJm (a16 : Word) (s : State) : Result := conditionalJump (Condition.holds .m s.flags) a16 s

/-- CM a16 (R204). -/
def execCm (a16 : Word) (s : State) : Result := conditionalCall (Condition.holds .m s.flags) a16 s

/-- RST 7 (R214). -/
def execRst7 (s : State) : Result := .next (restart 7 s)

end Sys2Proof.Machine
end

