-- ==== Sys2Proof/Machine/Control.lean ====
section
/-! DEFINITION. Control instructions (46_control.md R230 to R236). -/

namespace Sys2Proof.Machine

/-- NOP (R230). -/
def execNop (s : State) : Result := .next (seq 1 s)

/-- CMA (R234). -/
def execCma (s : State) : Result := .next (seq 1 (s.setA (~~~s.regs.a)))

/-- STC (R236). -/
def execStc (s : State) : Result := .next (seq 1 (s.setFlags { s.flags with cy := true }))

/-- CMC (R235). -/
def execCmc (s : State) : Result := .next (seq 1 (s.setFlags { s.flags with cy := !s.flags.cy }))

/-- HLT (R231). -/
def execHlt (s : State) : Result := .next (seq 1 (s.setHalted true))

/-- DI (R232). -/
def execDi (s : State) : Result := .next (seq 1 (s.setInte false))

/-- EI (R233). -/
def execEi (s : State) : Result := .next (seq 1 (s.setInte true))

end Sys2Proof.Machine
end

