-- ==== Sys2Proof/Machine/DataTransfer.lean ====
section
/-! DEFINITION. Data transfer (40_data_transfer.md R100 to R115). No instruction of this family writes a flag. -/

namespace Sys2Proof.Machine

/-- The shape of MOV and MVI (R100 to R104): read the source, write the destination, advance. -/
def moveByte (dst : Place) (src : Source) (n : Nat) (s : State) : Result :=
  .next (seq n (writePlace dst (readSource src s) s))

/-- The shape of LXI (R105). -/
def loadPair (rp : Pair) (v : Word) (s : State) : Result := .next (seq 3 (writePair rp v s))

/-- The shape of LDA and LDAX (R106, R108). -/
def loadA (addr : Word) (n : Nat) (s : State) : Result := .next (seq n (s.setA (memRead addr s)))

/-- The shape of STA and STAX (R107, R109). -/
def storeA (addr : Word) (n : Nat) (s : State) : Result := .next (seq n (memWrite addr.toNat s.regs.a s))

/-- LXI B,d16 (R105). -/
def execLxiB (d16 : Word) (s : State) : Result := loadPair .bc d16 s

/-- STAX B (R109). -/
def execStaxB (s : State) : Result := storeA (readPair .bc s) 1 s

/-- MVI B,d8 (R103). -/
def execMviB (d8 : Byte) (s : State) : Result := moveByte (.reg .b) (.imm d8) 2 s

/-- LDAX B (R108). -/
def execLdaxB (s : State) : Result := loadA (readPair .bc s) 1 s

/-- MVI C,d8 (R103). -/
def execMviC (d8 : Byte) (s : State) : Result := moveByte (.reg .c) (.imm d8) 2 s

/-- LXI D,d16 (R105). -/
def execLxiD (d16 : Word) (s : State) : Result := loadPair .de d16 s

/-- STAX D (R109). -/
def execStaxD (s : State) : Result := storeA (readPair .de s) 1 s

/-- MVI D,d8 (R103). -/
def execMviD (d8 : Byte) (s : State) : Result := moveByte (.reg .d) (.imm d8) 2 s

/-- LDAX D (R108). -/
def execLdaxD (s : State) : Result := loadA (readPair .de s) 1 s

/-- MVI E,d8 (R103). -/
def execMviE (d8 : Byte) (s : State) : Result := moveByte (.reg .e) (.imm d8) 2 s

/-- LXI H,d16 (R105). -/
def execLxiH (d16 : Word) (s : State) : Result := loadPair .hl d16 s

/-- SHLD a16 (R111). -/
def execShld (a16 : Word) (s : State) : Result := .next (seq 3 (write16 a16 (hl s) s))

/-- MVI H,d8 (R103). -/
def execMviH (d8 : Byte) (s : State) : Result := moveByte (.reg .h) (.imm d8) 2 s

/-- LHLD a16 (R110). -/
def execLhld (a16 : Word) (s : State) : Result := .next (seq 3 (writePair .hl (read16 a16 s) s))

/-- MVI L,d8 (R103). -/
def execMviL (d8 : Byte) (s : State) : Result := moveByte (.reg .l) (.imm d8) 2 s

/-- LXI SP,d16 (R105). -/
def execLxiSp (d16 : Word) (s : State) : Result := loadPair .sp d16 s

/-- STA a16 (R107). -/
def execSta (a16 : Word) (s : State) : Result := storeA a16 3 s

/-- MVI M,d8 (R104). -/
def execMviM (d8 : Byte) (s : State) : Result := moveByte .m (.imm d8) 2 s

/-- LDA a16 (R106). -/
def execLda (a16 : Word) (s : State) : Result := loadA a16 3 s

/-- MVI A,d8 (R103). -/
def execMviA (d8 : Byte) (s : State) : Result := moveByte (.reg .a) (.imm d8) 2 s

/-- MOV B,B (R100). -/
def execMovBB (s : State) : Result := moveByte (.reg .b) (.reg .b) 1 s

/-- MOV B,C (R100). -/
def execMovBC (s : State) : Result := moveByte (.reg .b) (.reg .c) 1 s

/-- MOV B,D (R100). -/
def execMovBD (s : State) : Result := moveByte (.reg .b) (.reg .d) 1 s

/-- MOV B,E (R100). -/
def execMovBE (s : State) : Result := moveByte (.reg .b) (.reg .e) 1 s

/-- MOV B,H (R100). -/
def execMovBH (s : State) : Result := moveByte (.reg .b) (.reg .h) 1 s

/-- MOV B,L (R100). -/
def execMovBL (s : State) : Result := moveByte (.reg .b) (.reg .l) 1 s

/-- MOV B,M (R101). -/
def execMovBM (s : State) : Result := moveByte (.reg .b) .m 1 s

/-- MOV B,A (R100). -/
def execMovBA (s : State) : Result := moveByte (.reg .b) (.reg .a) 1 s

/-- MOV C,B (R100). -/
def execMovCB (s : State) : Result := moveByte (.reg .c) (.reg .b) 1 s

/-- MOV C,C (R100). -/
def execMovCC (s : State) : Result := moveByte (.reg .c) (.reg .c) 1 s

/-- MOV C,D (R100). -/
def execMovCD (s : State) : Result := moveByte (.reg .c) (.reg .d) 1 s

/-- MOV C,E (R100). -/
def execMovCE (s : State) : Result := moveByte (.reg .c) (.reg .e) 1 s

/-- MOV C,H (R100). -/
def execMovCH (s : State) : Result := moveByte (.reg .c) (.reg .h) 1 s

/-- MOV C,L (R100). -/
def execMovCL (s : State) : Result := moveByte (.reg .c) (.reg .l) 1 s

/-- MOV C,M (R101). -/
def execMovCM (s : State) : Result := moveByte (.reg .c) .m 1 s

/-- MOV C,A (R100). -/
def execMovCA (s : State) : Result := moveByte (.reg .c) (.reg .a) 1 s

/-- MOV D,B (R100). -/
def execMovDB (s : State) : Result := moveByte (.reg .d) (.reg .b) 1 s

/-- MOV D,C (R100). -/
def execMovDC (s : State) : Result := moveByte (.reg .d) (.reg .c) 1 s

/-- MOV D,D (R100). -/
def execMovDD (s : State) : Result := moveByte (.reg .d) (.reg .d) 1 s

/-- MOV D,E (R100). -/
def execMovDE (s : State) : Result := moveByte (.reg .d) (.reg .e) 1 s

/-- MOV D,H (R100). -/
def execMovDH (s : State) : Result := moveByte (.reg .d) (.reg .h) 1 s

/-- MOV D,L (R100). -/
def execMovDL (s : State) : Result := moveByte (.reg .d) (.reg .l) 1 s

/-- MOV D,M (R101). -/
def execMovDM (s : State) : Result := moveByte (.reg .d) .m 1 s

/-- MOV D,A (R100). -/
def execMovDA (s : State) : Result := moveByte (.reg .d) (.reg .a) 1 s

/-- MOV E,B (R100). -/
def execMovEB (s : State) : Result := moveByte (.reg .e) (.reg .b) 1 s

/-- MOV E,C (R100). -/
def execMovEC (s : State) : Result := moveByte (.reg .e) (.reg .c) 1 s

/-- MOV E,D (R100). -/
def execMovED (s : State) : Result := moveByte (.reg .e) (.reg .d) 1 s

/-- MOV E,E (R100). -/
def execMovEE (s : State) : Result := moveByte (.reg .e) (.reg .e) 1 s

/-- MOV E,H (R100). -/
def execMovEH (s : State) : Result := moveByte (.reg .e) (.reg .h) 1 s

/-- MOV E,L (R100). -/
def execMovEL (s : State) : Result := moveByte (.reg .e) (.reg .l) 1 s

/-- MOV E,M (R101). -/
def execMovEM (s : State) : Result := moveByte (.reg .e) .m 1 s

/-- MOV E,A (R100). -/
def execMovEA (s : State) : Result := moveByte (.reg .e) (.reg .a) 1 s

/-- MOV H,B (R100). -/
def execMovHB (s : State) : Result := moveByte (.reg .h) (.reg .b) 1 s

/-- MOV H,C (R100). -/
def execMovHC (s : State) : Result := moveByte (.reg .h) (.reg .c) 1 s

/-- MOV H,D (R100). -/
def execMovHD (s : State) : Result := moveByte (.reg .h) (.reg .d) 1 s

/-- MOV H,E (R100). -/
def execMovHE (s : State) : Result := moveByte (.reg .h) (.reg .e) 1 s

/-- MOV H,H (R100). -/
def execMovHH (s : State) : Result := moveByte (.reg .h) (.reg .h) 1 s

/-- MOV H,L (R100). -/
def execMovHL (s : State) : Result := moveByte (.reg .h) (.reg .l) 1 s

/-- MOV H,M (R101). -/
def execMovHM (s : State) : Result := moveByte (.reg .h) .m 1 s

/-- MOV H,A (R100). -/
def execMovHA (s : State) : Result := moveByte (.reg .h) (.reg .a) 1 s

/-- MOV L,B (R100). -/
def execMovLB (s : State) : Result := moveByte (.reg .l) (.reg .b) 1 s

/-- MOV L,C (R100). -/
def execMovLC (s : State) : Result := moveByte (.reg .l) (.reg .c) 1 s

/-- MOV L,D (R100). -/
def execMovLD (s : State) : Result := moveByte (.reg .l) (.reg .d) 1 s

/-- MOV L,E (R100). -/
def execMovLE (s : State) : Result := moveByte (.reg .l) (.reg .e) 1 s

/-- MOV L,H (R100). -/
def execMovLH (s : State) : Result := moveByte (.reg .l) (.reg .h) 1 s

/-- MOV L,L (R100). -/
def execMovLL (s : State) : Result := moveByte (.reg .l) (.reg .l) 1 s

/-- MOV L,M (R101). -/
def execMovLM (s : State) : Result := moveByte (.reg .l) .m 1 s

/-- MOV L,A (R100). -/
def execMovLA (s : State) : Result := moveByte (.reg .l) (.reg .a) 1 s

/-- MOV M,B (R102). -/
def execMovMB (s : State) : Result := moveByte .m (.reg .b) 1 s

/-- MOV M,C (R102). -/
def execMovMC (s : State) : Result := moveByte .m (.reg .c) 1 s

/-- MOV M,D (R102). -/
def execMovMD (s : State) : Result := moveByte .m (.reg .d) 1 s

/-- MOV M,E (R102). -/
def execMovME (s : State) : Result := moveByte .m (.reg .e) 1 s

/-- MOV M,H (R102). -/
def execMovMH (s : State) : Result := moveByte .m (.reg .h) 1 s

/-- MOV M,L (R102). -/
def execMovML (s : State) : Result := moveByte .m (.reg .l) 1 s

/-- MOV M,A (R102). -/
def execMovMA (s : State) : Result := moveByte .m (.reg .a) 1 s

/-- MOV A,B (R100). -/
def execMovAB (s : State) : Result := moveByte (.reg .a) (.reg .b) 1 s

/-- MOV A,C (R100). -/
def execMovAC (s : State) : Result := moveByte (.reg .a) (.reg .c) 1 s

/-- MOV A,D (R100). -/
def execMovAD (s : State) : Result := moveByte (.reg .a) (.reg .d) 1 s

/-- MOV A,E (R100). -/
def execMovAE (s : State) : Result := moveByte (.reg .a) (.reg .e) 1 s

/-- MOV A,H (R100). -/
def execMovAH (s : State) : Result := moveByte (.reg .a) (.reg .h) 1 s

/-- MOV A,L (R100). -/
def execMovAL (s : State) : Result := moveByte (.reg .a) (.reg .l) 1 s

/-- MOV A,M (R101). -/
def execMovAM (s : State) : Result := moveByte (.reg .a) .m 1 s

/-- MOV A,A (R100). -/
def execMovAA (s : State) : Result := moveByte (.reg .a) (.reg .a) 1 s

/-- XTHL (R113). -/
def execXthl (s : State) : Result := .next (seq 1 (writePair .hl (read16 s.sp s) (write16 s.sp (hl s) s)))

/-- PCHL (R115). -/
def execPchl (s : State) : Result := .next (s.setPc (hl s))

/-- XCHG (R112). -/
def execXchg (s : State) : Result := .next (seq 1 (writePair .de (hl s) (writePair .hl (readPair .de s) s)))

/-- SPHL (R114). -/
def execSphl (s : State) : Result := .next (seq 1 (s.setSp (hl s)))

end Sys2Proof.Machine
end

