-- ==== Sys2Proof/Machine/Illegal.lean ====
section
/-! DEFINITION. The twelve unassigned opcode bytes (30_encoding.md R92, 60_exceptions.md R253): a FatalDecodeError is a next state with HALTED = 1. -/

namespace Sys2Proof.Machine

/-- Executing an unassigned byte (R92). -/
def illegal (op : Byte) (s : State) : Result := .next (fatalDecodeError op s)

/-- The unassigned byte 0x08 (R92). -/
def execIllegal08 (s : State) : Result := illegal 0x08 s

/-- The unassigned byte 0x10 (R92). -/
def execIllegal10 (s : State) : Result := illegal 0x10 s

/-- The unassigned byte 0x18 (R92). -/
def execIllegal18 (s : State) : Result := illegal 0x18 s

/-- The unassigned byte 0x20 (R92). -/
def execIllegal20 (s : State) : Result := illegal 0x20 s

/-- The unassigned byte 0x28 (R92). -/
def execIllegal28 (s : State) : Result := illegal 0x28 s

/-- The unassigned byte 0x30 (R92). -/
def execIllegal30 (s : State) : Result := illegal 0x30 s

/-- The unassigned byte 0x38 (R92). -/
def execIllegal38 (s : State) : Result := illegal 0x38 s

/-- The unassigned byte 0xCB (R92). -/
def execIllegalcb (s : State) : Result := illegal 0xCB s

/-- The unassigned byte 0xD9 (R92). -/
def execIllegald9 (s : State) : Result := illegal 0xD9 s

/-- The unassigned byte 0xDD (R92). -/
def execIllegaldd (s : State) : Result := illegal 0xDD s

/-- The unassigned byte 0xED (R92). -/
def execIllegaled (s : State) : Result := illegal 0xED s

/-- The unassigned byte 0xFD (R92). -/
def execIllegalfd (s : State) : Result := illegal 0xFD s

end Sys2Proof.Machine
end

