-- ==== Sys2Proof/Machine/InputOutput.lean ====
section
/-! DEFINITION. IN and OUT (47_io.md R240, R241). A port with no latch is refused before any effect (log 7). -/

namespace Sys2Proof.Machine

/-- OUT p8 (R241). -/
def execOut (p8 : Byte) (s : State) : Result :=
  match portOut p8 s.regs.a s with
  | some t => .next (seq 2 t)
  | none => .refused (.outPortWithoutLatch p8)

/-- IN p8 (R240). -/
def execInp (p8 : Byte) (s : State) : Result :=
  match portIn p8 s with
  | some v => .next (seq 2 (s.setA v))
  | none => .refused (.inPortWithoutLatch p8)

end Sys2Proof.Machine
end

