-- ==== Sys2Proof/Machine/Logical.lean ====
section
/-! DEFINITION. Logical, compare and immediate ALU instructions (42_logical.md R150 to R165). -/

namespace Sys2Proof.Machine

/-- ANA and ANI (R150, R151, R158). -/
def andA (src : Source) (n : Nat) (s : State) : Result :=
  let v := readSource src s
  .next (seq n ((s.setA (s.regs.a &&& v)).setFlags (andFlags s.cfg.anaAcMode s.regs.a v s.flags)))

/-- XRA and XRI (R152, R153, R159). -/
def xorA (src : Source) (n : Nat) (s : State) : Result :=
  let r := s.regs.a ^^^ readSource src s
  .next (seq n ((s.setA r).setFlags (orFlags r s.flags)))

/-- ORA and ORI (R154, R155, R160). -/
def orA (src : Source) (n : Nat) (s : State) : Result :=
  let r := s.regs.a ||| readSource src s
  .next (seq n ((s.setA r).setFlags (orFlags r s.flags)))

/-- CMP and CPI (R156, R157, R161): the flags of a subtraction; A is not written. -/
def compareA (src : Source) (n : Nat) (s : State) : Result :=
  .next (seq n (s.setFlags (arithFlags (sub8 s.regs.a (readSource src s) false) s.flags)))

/-- ANA B (R150). -/
def execAnaB (s : State) : Result := andA (.reg .b) 1 s

/-- ANA C (R150). -/
def execAnaC (s : State) : Result := andA (.reg .c) 1 s

/-- ANA D (R150). -/
def execAnaD (s : State) : Result := andA (.reg .d) 1 s

/-- ANA E (R150). -/
def execAnaE (s : State) : Result := andA (.reg .e) 1 s

/-- ANA H (R150). -/
def execAnaH (s : State) : Result := andA (.reg .h) 1 s

/-- ANA L (R150). -/
def execAnaL (s : State) : Result := andA (.reg .l) 1 s

/-- ANA M (R151). -/
def execAnaM (s : State) : Result := andA .m 1 s

/-- ANA A (R150). -/
def execAnaA (s : State) : Result := andA (.reg .a) 1 s

/-- XRA B (R152). -/
def execXraB (s : State) : Result := xorA (.reg .b) 1 s

/-- XRA C (R152). -/
def execXraC (s : State) : Result := xorA (.reg .c) 1 s

/-- XRA D (R152). -/
def execXraD (s : State) : Result := xorA (.reg .d) 1 s

/-- XRA E (R152). -/
def execXraE (s : State) : Result := xorA (.reg .e) 1 s

/-- XRA H (R152). -/
def execXraH (s : State) : Result := xorA (.reg .h) 1 s

/-- XRA L (R152). -/
def execXraL (s : State) : Result := xorA (.reg .l) 1 s

/-- XRA M (R153). -/
def execXraM (s : State) : Result := xorA .m 1 s

/-- XRA A (R152). -/
def execXraA (s : State) : Result := xorA (.reg .a) 1 s

/-- ORA B (R154). -/
def execOraB (s : State) : Result := orA (.reg .b) 1 s

/-- ORA C (R154). -/
def execOraC (s : State) : Result := orA (.reg .c) 1 s

/-- ORA D (R154). -/
def execOraD (s : State) : Result := orA (.reg .d) 1 s

/-- ORA E (R154). -/
def execOraE (s : State) : Result := orA (.reg .e) 1 s

/-- ORA H (R154). -/
def execOraH (s : State) : Result := orA (.reg .h) 1 s

/-- ORA L (R154). -/
def execOraL (s : State) : Result := orA (.reg .l) 1 s

/-- ORA M (R155). -/
def execOraM (s : State) : Result := orA .m 1 s

/-- ORA A (R154). -/
def execOraA (s : State) : Result := orA (.reg .a) 1 s

/-- CMP B (R156). -/
def execCmpB (s : State) : Result := compareA (.reg .b) 1 s

/-- CMP C (R156). -/
def execCmpC (s : State) : Result := compareA (.reg .c) 1 s

/-- CMP D (R156). -/
def execCmpD (s : State) : Result := compareA (.reg .d) 1 s

/-- CMP E (R156). -/
def execCmpE (s : State) : Result := compareA (.reg .e) 1 s

/-- CMP H (R156). -/
def execCmpH (s : State) : Result := compareA (.reg .h) 1 s

/-- CMP L (R156). -/
def execCmpL (s : State) : Result := compareA (.reg .l) 1 s

/-- CMP M (R157). -/
def execCmpM (s : State) : Result := compareA .m 1 s

/-- CMP A (R156). -/
def execCmpA (s : State) : Result := compareA (.reg .a) 1 s

/-- ADI d8 (R162). -/
def execAdi (d8 : Byte) (s : State) : Result := addToA (.imm d8) false 2 s

/-- ACI d8 (R163). -/
def execAci (d8 : Byte) (s : State) : Result := addToA (.imm d8) s.flags.cy 2 s

/-- SUI d8 (R164). -/
def execSui (d8 : Byte) (s : State) : Result := subFromA (.imm d8) false 2 s

/-- SBI d8 (R165). -/
def execSbi (d8 : Byte) (s : State) : Result := subFromA (.imm d8) s.flags.cy 2 s

/-- ANI d8 (R158). -/
def execAni (d8 : Byte) (s : State) : Result := andA (.imm d8) 2 s

/-- XRI d8 (R159). -/
def execXri (d8 : Byte) (s : State) : Result := xorA (.imm d8) 2 s

/-- ORI d8 (R160). -/
def execOri (d8 : Byte) (s : State) : Result := orA (.imm d8) 2 s

/-- CPI d8 (R161). -/
def execCpi (d8 : Byte) (s : State) : Result := compareA (.imm d8) 2 s

end Sys2Proof.Machine
end

