-- ==== Sys2Proof/Machine/Rotate.lean ====
section
/-! DEFINITION. Rotates (43_rotate.md R170 to R173). Each writes A and CY only. -/

namespace Sys2Proof.Machine

/-- A byte with one bit at position `k`: `b << k` of a bool (R10). -/
def bitByte (b : Bool) (k : Nat) : Byte := BitVec.ofNat 8 b.toNat <<< k

/-- The shape of a rotate: the new A and the bit that leaves it (R170 to R173). -/
def rotate (a : Byte) (out : Bool) (s : State) : Result :=
  .next (seq 1 ((s.setA a).setFlags { s.flags with cy := out }))

/-- RLC (R170). -/
def execRlc (s : State) : Result := rotate ((s.regs.a <<< 1) ||| bitByte (s.regs.a.getLsbD 7) 0) (s.regs.a.getLsbD 7) s

/-- RRC (R171). -/
def execRrc (s : State) : Result := rotate ((s.regs.a >>> 1) ||| bitByte (s.regs.a.getLsbD 0) 7) (s.regs.a.getLsbD 0) s

/-- RAL (R172). -/
def execRal (s : State) : Result := rotate ((s.regs.a <<< 1) ||| bitByte s.flags.cy 0) (s.regs.a.getLsbD 7) s

/-- RAR (R173). -/
def execRar (s : State) : Result := rotate ((s.regs.a >>> 1) ||| bitByte s.flags.cy 7) (s.regs.a.getLsbD 0) s

end Sys2Proof.Machine
end

