-- ==== Sys2Proof/Machine/Stack.lean ====
section
/-! DEFINITION. PUSH and POP (45_stack.md R220 to R223). -/

namespace Sys2Proof.Machine

/-- POP of a register pair (R222). -/
def popPair (rp : Pair) (s : State) : Result :=
  .next (seq 1 (writePair rp (pop16 s).1 (pop16 s).2))

/-- POP PSW (R223): the flags from the low byte, A from the high byte. -/
def popFlagsAndA (s : State) : Result :=
  .next (seq 1 (((pop16 s).2.setFlags (flagsOfByte (loByte (pop16 s).1))).setA (hiByte (pop16 s).1)))

/-- POP B (R222). -/
def execPopB (s : State) : Result := popPair .bc s

/-- PUSH B (R220). -/
def execPushB (s : State) : Result := .next (seq 1 (push16 (readPair .bc s) s))

/-- POP D (R222). -/
def execPopD (s : State) : Result := popPair .de s

/-- PUSH D (R220). -/
def execPushD (s : State) : Result := .next (seq 1 (push16 (readPair .de s) s))

/-- POP H (R222). -/
def execPopH (s : State) : Result := popPair .hl s

/-- PUSH H (R220). -/
def execPushH (s : State) : Result := .next (seq 1 (push16 (readPair .hl s) s))

/-- POP PSW (R223). -/
def execPopPsw (s : State) : Result := popFlagsAndA s

/-- PUSH PSW (R221). -/
def execPushPsw (s : State) : Result := .next (seq 1 (push16 (joinBytes s.regs.a (flagsByte s.flags)) s))

end Sys2Proof.Machine
end

