-- ==== Sys2Proof/Machine/Fetch.lean ====
section
/-! DEFINITION. What a step does around the handler (30_encoding.md R81, R82): fetching and decoding at PC, cycle accounting;
placing an instruction's bytes where the next fetch reads them. -/

namespace Sys2Proof.Machine

/-- The instruction at PC (R81). The error `truncated` is an instruction that extends past 0xFFFF (R87), since `fetchBytes`
holds every byte from PC on that exists, up to three. -/
def fetchInstr (s : State) : Except DecodeError (Instr × List Byte) := decode (fetchBytes s)

/-- Cycle accounting after the handler (R82): every legal opcode adds its cost, an illegal one nothing (R92). -/
def account (i : Instr) (s : State) : State :=
  if isIllegal (opcodeOf i) then s else addCycles (opcodeOf i) s

/-- The handler's answer with the cycle accounting applied to its next state. -/
def accountResult (i : Instr) : Result → Result
  | .next t => .next (account i t)
  | .fault r => .fault r
  | .refused r => .refused r

/-- The three bytes of the numbered bits `w`, those from `nbits` up being 0, in memory order (R59). -/
def tableWordBytes (nbits w : Nat) : List Byte :=
  let bits := w % 2 ^ nbits
  [BitVec.ofNat 8 bits, BitVec.ofNat 8 (bits / 0x100), BitVec.ofNat 8 (bits / 0x10000)]

/-- `s` with those bytes at PC and after, as a load would leave them (R300; log 9). -/
def placeAtPc (nbits w : Nat) (s : State) : State :=
  s.setMem (placeBytes s.mem s.pc.toNat (tableWordBytes nbits w))

end Sys2Proof.Machine
end

