-- ==== Sys2Proof/Machine/Step.lean ====
section
/-! DEFINITION. One step of the core (30_encoding.md R80, R81, R87). -/

namespace Sys2Proof.Machine

/-- `step()` (R81): a halted state has no step (R80); an instruction that extends past 0xFFFF is not executed (R87); any
other is executed and accounted for (R82). -/
def step (s : State) : Host.Outcome State Fault Refusal :=
  if s.halted then .fault .halted
  else
    match fetchInstr s with
    | .error _ => .next (straddleOverflow s)
    | .ok (i, _) => accountResult i (exec i s)

/-- `s` with the instruction of the numbered bits `w` placed at PC, where the next step fetches it (log 9). -/
def State.withFetchWord (s : State) (nbits w : Nat) : State := placeAtPc nbits w s

end Sys2Proof.Machine
end

