-- ==== Sys2Proof/Machine/Disassembler.lean ====
section
/-! DEFINITION. The disassembly operation (30_encoding.md R94, R96; 60_exceptions.md R278): it reads a buffer and changes no state. -/

namespace Sys2Proof.Machine

/-- The mnemonic texts of the row 0x of R91: the name and the register, pair or number operands (R94). -/
def mnemonicRow0 : List String := [
  "NOP", "LXI B", "STAX B", "INX B",
  "INR B", "DCR B", "MVI B", "RLC",
  "(illegal)", "DAD B", "LDAX B", "DCX B",
  "INR C", "DCR C", "MVI C", "RRC"]

/-- The mnemonic texts of the row 1x of R91: the name and the register, pair or number operands (R94). -/
def mnemonicRow1 : List String := [
  "(illegal)", "LXI D", "STAX D", "INX D",
  "INR D", "DCR D", "MVI D", "RAL",
  "(illegal)", "DAD D", "LDAX D", "DCX D",
  "INR E", "DCR E", "MVI E", "RAR"]

/-- The mnemonic texts of the row 2x of R91: the name and the register, pair or number operands (R94). -/
def mnemonicRow2 : List String := [
  "(illegal)", "LXI H", "SHLD", "INX H",
  "INR H", "DCR H", "MVI H", "DAA",
  "(illegal)", "DAD H", "LHLD", "DCX H",
  "INR L", "DCR L", "MVI L", "CMA"]

/-- The mnemonic texts of the row 3x of R91: the name and the register, pair or number operands (R94). -/
def mnemonicRow3 : List String := [
  "(illegal)", "LXI SP", "STA", "INX SP",
  "INR M", "DCR M", "MVI M", "STC",
  "(illegal)", "DAD SP", "LDA", "DCX SP",
  "INR A", "DCR A", "MVI A", "CMC"]

/-- The mnemonic texts of the row 4x of R91: the name and the register, pair or number operands (R94). -/
def mnemonicRow4 : List String := [
  "MOV B,B", "MOV B,C", "MOV B,D", "MOV B,E",
  "MOV B,H", "MOV B,L", "MOV B,M", "MOV B,A",
  "MOV C,B", "MOV C,C", "MOV C,D", "MOV C,E",
  "MOV C,H", "MOV C,L", "MOV C,M", "MOV C,A"]

/-- The mnemonic texts of the row 5x of R91: the name and the register, pair or number operands (R94). -/
def mnemonicRow5 : List String := [
  "MOV D,B", "MOV D,C", "MOV D,D", "MOV D,E",
  "MOV D,H", "MOV D,L", "MOV D,M", "MOV D,A",
  "MOV E,B", "MOV E,C", "MOV E,D", "MOV E,E",
  "MOV E,H", "MOV E,L", "MOV E,M", "MOV E,A"]

/-- The mnemonic texts of the row 6x of R91: the name and the register, pair or number operands (R94). -/
def mnemonicRow6 : List String := [
  "MOV H,B", "MOV H,C", "MOV H,D", "MOV H,E",
  "MOV H,H", "MOV H,L", "MOV H,M", "MOV H,A",
  "MOV L,B", "MOV L,C", "MOV L,D", "MOV L,E",
  "MOV L,H", "MOV L,L", "MOV L,M", "MOV L,A"]

/-- The mnemonic texts of the row 7x of R91: the name and the register, pair or number operands (R94). -/
def mnemonicRow7 : List String := [
  "MOV M,B", "MOV M,C", "MOV M,D", "MOV M,E",
  "MOV M,H", "MOV M,L", "HLT", "MOV M,A",
  "MOV A,B", "MOV A,C", "MOV A,D", "MOV A,E",
  "MOV A,H", "MOV A,L", "MOV A,M", "MOV A,A"]

/-- The mnemonic texts of the row 8x of R91: the name and the register, pair or number operands (R94). -/
def mnemonicRow8 : List String := [
  "ADD B", "ADD C", "ADD D", "ADD E",
  "ADD H", "ADD L", "ADD M", "ADD A",
  "ADC B", "ADC C", "ADC D", "ADC E",
  "ADC H", "ADC L", "ADC M", "ADC A"]

/-- The mnemonic texts of the row 9x of R91: the name and the register, pair or number operands (R94). -/
def mnemonicRow9 : List String := [
  "SUB B", "SUB C", "SUB D", "SUB E",
  "SUB H", "SUB L", "SUB M", "SUB A",
  "SBB B", "SBB C", "SBB D", "SBB E",
  "SBB H", "SBB L", "SBB M", "SBB A"]

/-- The mnemonic texts of the row Ax of R91: the name and the register, pair or number operands (R94). -/
def mnemonicRowA : List String := [
  "ANA B", "ANA C", "ANA D", "ANA E",
  "ANA H", "ANA L", "ANA M", "ANA A",
  "XRA B", "XRA C", "XRA D", "XRA E",
  "XRA H", "XRA L", "XRA M", "XRA A"]

/-- The mnemonic texts of the row Bx of R91: the name and the register, pair or number operands (R94). -/
def mnemonicRowB : List String := [
  "ORA B", "ORA C", "ORA D", "ORA E",
  "ORA H", "ORA L", "ORA M", "ORA A",
  "CMP B", "CMP C", "CMP D", "CMP E",
  "CMP H", "CMP L", "CMP M", "CMP A"]

/-- The mnemonic texts of the row Cx of R91: the name and the register, pair or number operands (R94). -/
def mnemonicRowC : List String := [
  "RNZ", "POP B", "JNZ", "JMP",
  "CNZ", "PUSH B", "ADI", "RST 0",
  "RZ", "RET", "JZ", "(illegal)",
  "CZ", "CALL", "ACI", "RST 1"]

/-- The mnemonic texts of the row Dx of R91: the name and the register, pair or number operands (R94). -/
def mnemonicRowD : List String := [
  "RNC", "POP D", "JNC", "OUT",
  "CNC", "PUSH D", "SUI", "RST 2",
  "RC", "(illegal)", "JC", "IN",
  "CC", "(illegal)", "SBI", "RST 3"]

/-- The mnemonic texts of the row Ex of R91: the name and the register, pair or number operands (R94). -/
def mnemonicRowE : List String := [
  "RPO", "POP H", "JPO", "XTHL",
  "CPO", "PUSH H", "ANI", "RST 4",
  "RPE", "PCHL", "JPE", "XCHG",
  "CPE", "(illegal)", "XRI", "RST 5"]

/-- The mnemonic texts of the row Fx of R91: the name and the register, pair or number operands (R94). -/
def mnemonicRowF : List String := [
  "RP", "POP PSW", "JP", "DI",
  "CP", "PUSH PSW", "ORI", "RST 6",
  "RM", "SPHL", "JM", "EI",
  "CM", "(illegal)", "CPI", "RST 7"]

/-- The "mnemonic text" column of OPTABLE (R83). -/
def mnemonicTable : List String :=
  mnemonicRow0 ++ mnemonicRow1 ++ mnemonicRow2 ++ mnemonicRow3 ++ mnemonicRow4 ++ mnemonicRow5 ++ mnemonicRow6 ++ mnemonicRow7
    ++ mnemonicRow8 ++ mnemonicRow9 ++ mnemonicRowA ++ mnemonicRowB ++ mnemonicRowC ++ mnemonicRowD ++ mnemonicRowE ++ mnemonicRowF

theorem mnemonicTable_length : mnemonicTable.length = 256 := by
  simp only [mnemonicTable, List.length_append]
  rfl

/-- The mnemonic text of an opcode byte. -/
def mnemonicOf (op : Byte) : String := mnemonicTable[op.toNat]'(mnemonicTable_length ▸ op.isLt)

/-- What the operation returns (R96): the mnemonic, the instruction length and the line. An unassigned byte has no length
(R92), so its length is none. -/
structure Disassembly where
  mnemonic : String
  length   : Option Nat
  line     : String
  deriving DecidableEq, Repr

/-- `disassemble(buf, off)` (R96, R281): the instruction at offset `off`, whose line names the address `off`; the operand bytes
are printed high to low. The text of the line is the uninterpreted DISASM_FORMAT (log 15). DESIGN CHOICE (log 15), where R96 is
silent: an offset at or past the end of `buf` answers the decoder's error `noBytes`, a buffer that ends inside the instruction
its error `truncated`. -/
def disassemble (buf : List Byte) (off : Nat) : Except DecodeError Disassembly :=
  match decode (buf.drop off) with
  | .error e => .error e
  | .ok (i, _) =>
    let op := opcodeOf i
    .ok { mnemonic := mnemonicOf op
          length := if isIllegal op then none else some i.length
          line := Config.disasmFormat ⟨off, op, mnemonicOf op, (encode i).tail.reverse⟩ }

end Sys2Proof.Machine
end

