-- ==== Sys2Proof/Machine/HostInterface.lean ====
section
/-! DEFINITION. The host's calls (60_exceptions.md R281), which happen only between steps (R280) and are no part of `step`
(log 8): load (70_reset_and_hazards.md R300, R301), raise_interrupt (R262), memory access (20_memory.md R76), the latches
(R282), the cycle counter (R271), the diagnostics. `disassemble` is in Disassembler.lean. -/

namespace Sys2Proof.Machine

/-- What a load answers (R254, R300). -/
inductive LoadResult where
  | success (s : State)
  | romTooLarge
  deriving DecidableEq, Repr

/-- `load(image, MODE)` with a choice of the parameters (R300, R301). The image copy is no MemWrite: no protection, no report. -/
def load (cfg : Config) (image : List Byte) : LoadResult :=
  if imageCapacity cfg.mode < image.length then .romTooLarge
  else .success ((State.initial cfg).setMem (Memory.ofImage (loadAddr cfg.mode).toNat image))

/-- `raise_interrupt(id)` (R262): dropped while INTE = 0 (R261), refused for an id outside the map, else accepted. -/
def raiseInterrupt (id : Nat) (s : State) : Result :=
  if s.inte then
    match s.cfg.intVectorMap.lookup id with
    | some n => .next (acceptInterrupt n s)
    | none => .refused (.interruptIdNotMapped id)
  else .next s

/-- `write_memory(a, v)` (R76): a MemWrite, with the same wrap, protection and report. -/
def hostWriteMemory (a : Nat) (v : Byte) (s : State) : State := memWrite a v s

/-- `read_memory(a)` (R76): refused at or above 0x10000. -/
def hostReadMemory (a : Nat) (s : State) : Except Refusal Byte :=
  if a < memSize then .ok (memRead (BitVec.ofNat 16 a) s) else .error (.hostReadOutOfRange a)

/-- The host sets input latch `i` (R282). -/
def setInputLatch (i : Fin 4) (v : Byte) (s : State) : State := s.setInLatch (s.inLatch.set i v)

/-- The host reads output latch `i` (R281). -/
def readOutputLatch (i : Fin 7) (s : State) : Byte := s.outLatch[i]

/-- The host reads CYC (R271). -/
def readCycles (s : State) : Nat := s.cyc

/-- The host resets CYC (R271). -/
def resetCycles (s : State) : State := s.setCyc 0

/-- The host reads DIAG (R281). -/
def readDiagnostics (s : State) : List Report := s.diag

/-- The calls that can change the state of a loaded machine (R281). -/
inductive HostAction where
  | raiseInterrupt (id : Nat)
  | writeMemory (a : Nat) (v : Byte)
  | setInputLatch (i : Fin 4) (v : Byte)
  | resetCycles
  deriving DecidableEq, Repr

/-- The effect of a host call between two steps. -/
def hostAct (x : HostAction) (s : State) : Result :=
  match x with
  | .raiseInterrupt id => Machine.raiseInterrupt id s
  | .writeMemory a v => .next (hostWriteMemory a v s)
  | .setInputLatch i v => .next (Machine.setInputLatch i v s)
  | .resetCycles => .next (Machine.resetCycles s)

end Sys2Proof.Machine
end

