-- ==== Sys2Proof/Safety.lean ====
section
/-! DEFINITION. The terms claims about runs use: the invariant, what a move of the machine must preserve, and runs in which the
host acts between steps (60_exceptions.md R280). -/

namespace Sys2Proof.Machine

/-- The invariant of the model: memory is in its canonical form (rising addresses below 0x10000, no entry equal to 0x00). -/
def Inv (s : State) : Prop := s.mem.wf = true

/-- In arcade mode no byte of the ROM region differs between the two states (R55, R65). -/
def RomKept (s t : State) : Prop :=
  s.cfg.mode = .arcade → ∀ a, a < romSize → t.mem.read a = s.mem.read a

/-- DIAG is append-only: the earlier log is a prefix of the later one (R38). -/
def LogGrows (s t : State) : Prop := s.diag <+: t.diag

/-- A move of the machine between two observations of the host: one step, or one host call (R280). -/
inductive Event where
  | step
  | host (x : HostAction)
  deriving DecidableEq, Repr

/-- The effect of one event. -/
def eventAct (e : Event) (s : State) : Result :=
  match e with
  | .step => Machine.step s
  | .host x => hostAct x s

/-- The effect of a list of events in order, up to the first that has no next state. -/
def runEvents : List Event → State → Result
  | [], s => .next s
  | e :: rest, s =>
    match eventAct e s with
    | .next t => runEvents rest t
    | .fault r => .fault r
    | .refused r => .refused r

end Sys2Proof.Machine
end

