-- ==== Sys2Proof/Certificates/Slice0/Obligations.lean ====
section
/-! DEFINITION. The statements for the provers, from the numbered rules of spec/. A statement about an instruction gives the
bytes of its encoding and the WHOLE next state: `{ s with … }` names every field the rule changes, so every field it does not
name (registers, flags, SP, INTE, HALTED, SR, SOFF, CYC, DIAG, the latches, every byte of memory, the parameters) is that of
`s`. For a form that stores, memory is given byte by byte by `contentsAfter`. `exec` has no case in which these instructions
do not complete, so the statements have no hypothesis on the state unless one is written. `step` adds the cycles (R82).
The shared terms below follow rules in which the spec marks a choice of its own (log 18): the advance past 0xFFFF (D4), the
wrapped write address and the stack addresses (D2), strict mode and the log (D23, D28), the order of two stores (D24), AC of a
subtraction (D19), the fixed bits of the packed byte (D18). A statement whose point is such a choice is 'derived' and says so. -/

namespace Sys2Proof.Claims

open Sys2Proof.Machine

/-! ### The terms of the statements -/

/-- The state after the sequential advance by `n` bytes (R88, D4): PC + n modulo 2^16 and, if PC + n reaches 0x10000, HALTED and one
ProgramCounterOverflow after whatever the instruction itself reported. -/
def advanced (n : Nat) (s : State) : State :=
  if s.pc.toNat + n < 65536 then { s with pc := s.pc + BitVec.ofNat 16 n }
  else { s with
    pc := s.pc + BitVec.ofNat 16 n
    halted := true
    diag := s.diag ++ [.programCounterOverflow s.pc] }

/-- The named register of `s` (R20). -/
def regOf (s : State) : Reg → Byte
  | .b => s.regs.b
  | .c => s.regs.c
  | .d => s.regs.d
  | .e => s.regs.e
  | .h => s.regs.h
  | .l => s.regs.l
  | .a => s.regs.a

/-- `s` with the named register holding `v`, every other as it was. -/
def putReg (s : State) (x : Reg) (v : Byte) : State :=
  match x with
  | .b => { s with regs := { s.regs with b := v } }
  | .c => { s with regs := { s.regs with c := v } }
  | .d => { s with regs := { s.regs with d := v } }
  | .e => { s with regs := { s.regs with e := v } }
  | .h => { s with regs := { s.regs with h := v } }
  | .l => { s with regs := { s.regs with l := v } }
  | .a => { s with regs := { s.regs with a := v } }

/-- The pair of `s` (R22, R26): the first-named register is the high byte. -/
def pairOf (s : State) : Pair → Word
  | .bc => joinBytes s.regs.b s.regs.c
  | .de => joinBytes s.regs.d s.regs.e
  | .hl => joinBytes s.regs.h s.regs.l
  | .sp => s.sp

/-- `s` with the pair holding `v` (R22, R26): the first-named register is `v / 256`. -/
def putPair (s : State) (x : Pair) (v : Word) : State :=
  match x with
  | .bc => { s with regs := { s.regs with b := BitVec.ofNat 8 (v.toNat / 256), c := BitVec.ofNat 8 v.toNat } }
  | .de => { s with regs := { s.regs with d := BitVec.ofNat 8 (v.toNat / 256), e := BitVec.ofNat 8 v.toNat } }
  | .hl => { s with regs := { s.regs with h := BitVec.ofNat 8 (v.toNat / 256), l := BitVec.ofNat 8 v.toNat } }
  | .sp => { s with sp := v }

/-- The byte M reads, memory at H * 256 + L (R24). -/
def byteAtHl (s : State) : Byte := s.mem.read (s.regs.h.toNat * 256 + s.regs.l.toNat)

/-- The ALU operand (R124): a register, M, or the immediate. -/
def operandOf (s : State) : Source → Byte
  | .reg x => regOf s x
  | .m => byteAtHl s
  | .imm v => v

/-- "true if the number of set bits in the byte is even" (R30), counted on the number. -/
def evenOnes (r : Nat) : Bool := ((List.range 8).countP fun k => r.testBit k) % 2 == 0

/-- The five flags with S, Z, P from a u8 result (R30) and the given AC and CY. -/
def flagsFor (r : Nat) (ac cy : Bool) : Flags := ⟨decide (128 ≤ r), decide (r = 0), ac, evenOnes r, cy⟩

/-- The wrapped write address of R54. -/
def target (a : Nat) : Nat := if a < 65536 then a else 8192 + a % 8192

/-- Whether a write to `a` is suppressed: arcade mode and a wrapped address in the ROM region (R55, R56). -/
def blocked (s : State) (a : Nat) : Bool := s.cfg.mode == .arcade && decide (target a < 8192)

/-- What the byte at `b` reads as after the writes `ws` (address, byte), made in order from the state `s`: the last write that
reaches `b` and is not suppressed; with none, what it read as before. -/
def contentsAfter (s : State) (ws : List (Nat × Byte)) (b : Nat) : Byte :=
  ws.foldl (fun old w => if target w.1 = b ∧ blocked s w.1 = false then w.2 else old) (s.mem.read b)

/-- The IllegalWrite reports of the writes `ws`, in their order, with the PC of `s` (R55, R251). -/
def reportsOf (s : State) (ws : List (Nat × Byte)) : List Report :=
  (ws.filter fun w => blocked s w.1).map fun w => .illegalWrite (BitVec.ofNat 16 (target w.1)) w.2 s.pc

/-- `s` after the writes `ws`, with memory `m`: the reports, and HALTED if one is suppressed in strict mode (R55). -/
def written (s : State) (ws : List (Nat × Byte)) (m : Memory) : State :=
  { s with
    mem := m
    diag := s.diag ++ reportsOf s ws
    halted := s.halted || (s.cfg.strictIllegalWrite && ws.any fun w => blocked s w.1) }

/-- `i` completes from `s`: it makes the writes `ws`, memory then reads as `contentsAfter` says at every address, and the rest of
its effect is `rest`. -/
def Stores (i : Instr) (s : State) (ws : List (Nat × Byte)) (rest : State → State) : Prop :=
  ∃ m : Memory, (∀ b, m.read b = contentsAfter s ws b) ∧ exec i s = .next (rest (written s ws m))

/-- The second-byte write address of SHLD and XTHL (R57). -/
def secondAddr (s : State) (a : Word) : Nat := if s.cfg.wideWriteFold then a.toNat + 1 else (a.toNat + 1) % 65536

/-- The two writes of push16 (R180) in their order: high byte at SP - 1, low byte at SP - 2. -/
def pushWrites (s : State) (v : Word) : List (Nat × Byte) := [((s.sp - 1).toNat, hiByte v), ((s.sp - 2).toNat, loByte v)]

/-- Whether both bytes of a push from `s` are stored (R55). -/
def pushStored (s : State) : Prop := blocked s (s.sp - 1).toNat = false ∧ blocked s (s.sp - 2).toNat = false

/-- The word that pop16 takes from the stack of `s` (R181). -/
def stackTop (s : State) : Word := joinBytes (s.mem.read (s.sp + 1).toNat) (s.mem.read s.sp.toNat)

/-- `v` has the SP of `t` and the two bytes at the top of the stack that `t` has; all else may differ. -/
def SameStackTop (t v : State) : Prop := v.sp = t.sp ∧ stackTop v = stackTop t

/-- The addition of `v` and a carry to A (R120): the new A and the five flags. -/
def afterAdd (s : State) (v : Byte) (c : Nat) : State :=
  let r := (s.regs.a.toNat + v.toNat + c) % 256
  { s with
    regs := { s.regs with a := BitVec.ofNat 8 r }
    flags := flagsFor r (decide (15 < s.regs.a.toNat % 16 + v.toNat % 16 + c))
      (decide (255 < s.regs.a.toNat + v.toNat + c)) }

/-- The flags of the subtraction of `v` and a borrow from `a` (R121): AC is "no borrow out of the low nibble", CY the borrow. -/
def flagsOfSub (a v b : Nat) : Flags :=
  flagsFor ((a + 256 - v - b) % 256) (decide (v % 16 + b ≤ a % 16)) (decide (a < v + b))

/-- The subtraction of `v` and a borrow from A (R121). -/
def afterSub (s : State) (v : Byte) (b : Nat) : State :=
  { s with
    regs := { s.regs with a := BitVec.ofNat 8 (s.regs.a.toNat + 256 - v.toNat - b) }
    flags := flagsOfSub s.regs.a.toNat v.toNat b }

/-- The new A of a logical operation with CY = 0 and the given AC (R122, R123). -/
def afterLogic (s : State) (r : Byte) (ac : Bool) : State :=
  { s with regs := { s.regs with a := r }, flags := flagsFor r.toNat ac false }

/-- The flags of INR (R134): CY is kept. -/
def flagsOfInr (f : Flags) (v : Byte) : Flags := flagsFor ((v.toNat + 1) % 256) (decide (v.toNat % 16 = 15)) f.cy

/-- The flags of DCR (R136): CY is kept. -/
def flagsOfDcr (f : Flags) (v : Byte) : Flags := flagsFor ((v.toNat + 255) % 256) (decide (v.toNat % 16 ≠ 0)) f.cy

/-- The packed flags byte of R29. -/
def pswByte (f : Flags) : Byte :=
  BitVec.ofNat 8 (128 * f.s.toNat + 64 * f.z.toNat + 16 * f.ac.toNat + 4 * f.p.toNat + 2 + f.cy.toNat)

/-- The flags that `write_flags` takes from a byte (R29). -/
def flagsFromByte (v : Byte) : Flags :=
  ⟨v.toNat.testBit 7, v.toNat.testBit 6, v.toNat.testBit 4, v.toNat.testBit 2, v.toNat.testBit 0⟩

/-- A two-digit BCD byte, and the number it stands for. -/
def isBcd (v : Byte) : Bool := decide (v.toNat % 16 ≤ 9) && decide (v.toNat / 16 ≤ 9)

def bcdValue (v : Byte) : Nat := 10 * (v.toNat / 16) + v.toNat % 16

/-- `k` executions of `i` in a row. -/
def execTimes : Nat → Instr → State → Result
  | 0, _, s => .next s
  | k + 1, i, s =>
    match exec i s with
    | .next t => execTimes k i t
    | .fault r => .fault r
    | .refused r => .refused r

/-- The 2-byte and 3-byte opcodes of the grid of R91 (d8 and p8; d16 and a16). -/
def twoByteOpcodes : List Byte :=
  [0x06, 0x0E, 0x16, 0x1E, 0x26, 0x2E, 0x36, 0x3E, 0xC6, 0xCE, 0xD3, 0xD6, 0xDB, 0xDE, 0xE6, 0xEE, 0xF6, 0xFE]

def threeByteOpcodes : List Byte :=
  [0x01, 0x11, 0x21, 0x22, 0x2A, 0x31, 0x32, 0x3A, 0xC2, 0xC3, 0xC4, 0xCA, 0xCC,
   0xCD, 0xD2, 0xD4, 0xDA, 0xDC, 0xE2, 0xE4, 0xEA, 0xEC, 0xF2, 0xF4, 0xFA, 0xFC]

/-- The length of the instruction of an opcode byte (R84, R93). An illegal byte counts as 1: R92 defines no length for it and has no
operand bytes read, so this is the model's choice (log 10, log 11). -/
def opcodeLength (op : Byte) : Nat :=
  if op ∈ twoByteOpcodes then 2 else if op ∈ threeByteOpcodes then 3 else 1

/-- Which flags an opcode may write, by the table of R32 (true: may be written). -/
def flagsWritten (op : Nat) : Flags :=
  if (0x80 ≤ op ∧ op < 0xC0) ∨ (0xC0 ≤ op ∧ op % 8 = 6) ∨ op = 0x27 ∨ op = 0xF1 then ⟨true, true, true, true, true⟩
  else if op < 0x40 ∧ (op % 8 = 4 ∨ op % 8 = 5) then ⟨true, true, true, true, false⟩
  else if op < 0x40 ∧ (op % 16 = 9 ∨ op = 0x07 ∨ op = 0x0F ∨ op = 0x17 ∨ op = 0x1F ∨ op = 0x37 ∨ op = 0x3F) then
    ⟨false, false, false, false, true⟩
  else ⟨false, false, false, false, false⟩

/-- The opcodes that can store to memory (R52, R251): MOV M,r; MVI M; STA; STAX; SHLD; INR M; DCR M; XTHL; PUSH; CALL, Ccc; RST. -/
def storesToMemory (op : Nat) : Bool :=
  (decide (0x70 ≤ op ∧ op < 0x78 ∧ op ≠ 0x76)) || [0x02, 0x12, 0x22, 0x32, 0x34, 0x35, 0x36, 0xE3, 0xCD].contains op
    || (decide (0xC0 ≤ op) && (op % 8 == 4 || op % 8 == 7 || op % 16 == 5))

/-! ### The forms of each family, with the bytes of their "Encoding:" lines -/

structure RegRegForm where
  instr : Instr
  bytes : List Byte
  dst   : Reg
  src   : Reg

structure RegForm where
  instr : Instr
  bytes : List Byte
  reg   : Reg

structure PairForm where
  instr : Instr
  bytes : List Byte
  pair  : Pair

structure AluForm where
  instr   : Instr
  bytes   : List Byte
  operand : Source
  length  : Nat

structure StoreForm where
  instr  : Instr
  bytes  : List Byte
  addr   : Word
  value  : Byte
  length : Nat

structure ConditionForm where
  instr : Instr
  bytes : List Byte
  taken : Flags → Bool

/-- MOV B,r (R100). -/
def movToB : List RegRegForm :=
  [.mk .movBB [0b01000000] .b .b,
   .mk .movBC [0b01000001] .b .c,
   .mk .movBD [0b01000010] .b .d,
   .mk .movBE [0b01000011] .b .e,
   .mk .movBH [0b01000100] .b .h,
   .mk .movBL [0b01000101] .b .l,
   .mk .movBA [0b01000111] .b .a]

/-- MOV C,r (R100). -/
def movToC : List RegRegForm :=
  [.mk .movCB [0b01001000] .c .b,
   .mk .movCC [0b01001001] .c .c,
   .mk .movCD [0b01001010] .c .d,
   .mk .movCE [0b01001011] .c .e,
   .mk .movCH [0b01001100] .c .h,
   .mk .movCL [0b01001101] .c .l,
   .mk .movCA [0b01001111] .c .a]

/-- MOV D,r (R100). -/
def movToD : List RegRegForm :=
  [.mk .movDB [0b01010000] .d .b,
   .mk .movDC [0b01010001] .d .c,
   .mk .movDD [0b01010010] .d .d,
   .mk .movDE [0b01010011] .d .e,
   .mk .movDH [0b01010100] .d .h,
   .mk .movDL [0b01010101] .d .l,
   .mk .movDA [0b01010111] .d .a]

/-- MOV E,r (R100). -/
def movToE : List RegRegForm :=
  [.mk .movEB [0b01011000] .e .b,
   .mk .movEC [0b01011001] .e .c,
   .mk .movED [0b01011010] .e .d,
   .mk .movEE [0b01011011] .e .e,
   .mk .movEH [0b01011100] .e .h,
   .mk .movEL [0b01011101] .e .l,
   .mk .movEA [0b01011111] .e .a]

/-- MOV H,r (R100). -/
def movToH : List RegRegForm :=
  [.mk .movHB [0b01100000] .h .b,
   .mk .movHC [0b01100001] .h .c,
   .mk .movHD [0b01100010] .h .d,
   .mk .movHE [0b01100011] .h .e,
   .mk .movHH [0b01100100] .h .h,
   .mk .movHL [0b01100101] .h .l,
   .mk .movHA [0b01100111] .h .a]

/-- MOV L,r (R100). -/
def movToL : List RegRegForm :=
  [.mk .movLB [0b01101000] .l .b,
   .mk .movLC [0b01101001] .l .c,
   .mk .movLD [0b01101010] .l .d,
   .mk .movLE [0b01101011] .l .e,
   .mk .movLH [0b01101100] .l .h,
   .mk .movLL [0b01101101] .l .l,
   .mk .movLA [0b01101111] .l .a]

/-- MOV A,r (R100). -/
def movToA : List RegRegForm :=
  [.mk .movAB [0b01111000] .a .b,
   .mk .movAC [0b01111001] .a .c,
   .mk .movAD [0b01111010] .a .d,
   .mk .movAE [0b01111011] .a .e,
   .mk .movAH [0b01111100] .a .h,
   .mk .movAL [0b01111101] .a .l,
   .mk .movAA [0b01111111] .a .a]

/-- MOV r1,r2: `01dddsss`, ddd and sss not 6 (R100). -/
def movForms : List RegRegForm :=
  movToB ++ (movToC ++ (movToD ++ (movToE ++ (movToH ++ (movToL ++ movToA)))))

/-- MOV r,M: `01ddd110` (R101). -/
def movFromMemoryForms : List RegForm :=
  [.mk .movBM [0b01000110] .b,
   .mk .movCM [0b01001110] .c,
   .mk .movDM [0b01010110] .d,
   .mk .movEM [0b01011110] .e,
   .mk .movHM [0b01100110] .h,
   .mk .movLM [0b01101110] .l,
   .mk .movAM [0b01111110] .a]

/-- MVI r,d8: `00ddd110 imm8` (R103). -/
def mviForms (d8 : Byte) : List RegForm :=
  [.mk (.mviB d8) [0b00000110, d8] .b,
   .mk (.mviC d8) [0b00001110, d8] .c,
   .mk (.mviD d8) [0b00010110, d8] .d,
   .mk (.mviE d8) [0b00011110, d8] .e,
   .mk (.mviH d8) [0b00100110, d8] .h,
   .mk (.mviL d8) [0b00101110, d8] .l,
   .mk (.mviA d8) [0b00111110, d8] .a]

/-- LXI rp,d16: `00rp0001 lo hi` (R105). -/
def lxiForms (d16 : Word) : List PairForm :=
  [.mk (.lxiB d16) [0b00000001, loByte d16, hiByte d16] .bc,
   .mk (.lxiD d16) [0b00010001, loByte d16, hiByte d16] .de,
   .mk (.lxiH d16) [0b00100001, loByte d16, hiByte d16] .hl,
   .mk (.lxiSp d16) [0b00110001, loByte d16, hiByte d16] .sp]

/-- The forms that store one byte: MOV M,r `01110sss` (R102), MVI M (R104), STA (R107), STAX (R109), with the address and the byte. -/
def byteStoreForms (d8 : Byte) (a16 : Word) (s : State) : List StoreForm :=
  [.mk .movMB [0b01110000] (hl s) s.regs.b 1,
   .mk .movMC [0b01110001] (hl s) s.regs.c 1,
   .mk .movMD [0b01110010] (hl s) s.regs.d 1,
   .mk .movME [0b01110011] (hl s) s.regs.e 1,
   .mk .movMH [0b01110100] (hl s) s.regs.h 1,
   .mk .movML [0b01110101] (hl s) s.regs.l 1,
   .mk .movMA [0b01110111] (hl s) s.regs.a 1,
   .mk (.mviM d8) [0b00110110, d8] (hl s) d8 2,
   .mk (.sta a16) [0b00110010, loByte a16, hiByte a16] a16 s.regs.a 3,
   .mk .staxB [0b00000010] (joinBytes s.regs.b s.regs.c) s.regs.a 1,
   .mk .staxD [0b00010010] (joinBytes s.regs.d s.regs.e) s.regs.a 1]

/-- ADD r, ADD M, ADI (R126, R127, R162). -/
def addForms (d8 : Byte) : List AluForm :=
  [.mk .addB [0b10000000] (.reg .b) 1,
   .mk .addC [0b10000001] (.reg .c) 1,
   .mk .addD [0b10000010] (.reg .d) 1,
   .mk .addE [0b10000011] (.reg .e) 1,
   .mk .addH [0b10000100] (.reg .h) 1,
   .mk .addL [0b10000101] (.reg .l) 1,
   .mk .addM [0b10000110] .m 1,
   .mk .addA [0b10000111] (.reg .a) 1,
   .mk (.adi d8) [0b11000110, d8] (.imm d8) 2]

/-- ADC r, ADC M, ACI (R128, R129, R163). -/
def adcForms (d8 : Byte) : List AluForm :=
  [.mk .adcB [0b10001000] (.reg .b) 1,
   .mk .adcC [0b10001001] (.reg .c) 1,
   .mk .adcD [0b10001010] (.reg .d) 1,
   .mk .adcE [0b10001011] (.reg .e) 1,
   .mk .adcH [0b10001100] (.reg .h) 1,
   .mk .adcL [0b10001101] (.reg .l) 1,
   .mk .adcM [0b10001110] .m 1,
   .mk .adcA [0b10001111] (.reg .a) 1,
   .mk (.aci d8) [0b11001110, d8] (.imm d8) 2]

/-- SUB r, SUB M, SUI (R130, R131, R164). -/
def subForms (d8 : Byte) : List AluForm :=
  [.mk .subB [0b10010000] (.reg .b) 1,
   .mk .subC [0b10010001] (.reg .c) 1,
   .mk .subD [0b10010010] (.reg .d) 1,
   .mk .subE [0b10010011] (.reg .e) 1,
   .mk .subH [0b10010100] (.reg .h) 1,
   .mk .subL [0b10010101] (.reg .l) 1,
   .mk .subM [0b10010110] .m 1,
   .mk .subA [0b10010111] (.reg .a) 1,
   .mk (.sui d8) [0b11010110, d8] (.imm d8) 2]

/-- SBB r, SBB M, SBI (R132, R133, R165). -/
def sbbForms (d8 : Byte) : List AluForm :=
  [.mk .sbbB [0b10011000] (.reg .b) 1,
   .mk .sbbC [0b10011001] (.reg .c) 1,
   .mk .sbbD [0b10011010] (.reg .d) 1,
   .mk .sbbE [0b10011011] (.reg .e) 1,
   .mk .sbbH [0b10011100] (.reg .h) 1,
   .mk .sbbL [0b10011101] (.reg .l) 1,
   .mk .sbbM [0b10011110] .m 1,
   .mk .sbbA [0b10011111] (.reg .a) 1,
   .mk (.sbi d8) [0b11011110, d8] (.imm d8) 2]

/-- ANA r, ANA M, ANI (R150, R151, R158). -/
def anaForms (d8 : Byte) : List AluForm :=
  [.mk .anaB [0b10100000] (.reg .b) 1,
   .mk .anaC [0b10100001] (.reg .c) 1,
   .mk .anaD [0b10100010] (.reg .d) 1,
   .mk .anaE [0b10100011] (.reg .e) 1,
   .mk .anaH [0b10100100] (.reg .h) 1,
   .mk .anaL [0b10100101] (.reg .l) 1,
   .mk .anaM [0b10100110] .m 1,
   .mk .anaA [0b10100111] (.reg .a) 1,
   .mk (.ani d8) [0b11100110, d8] (.imm d8) 2]

/-- XRA r, XRA M, XRI (R152, R153, R159). -/
def xraForms (d8 : Byte) : List AluForm :=
  [.mk .xraB [0b10101000] (.reg .b) 1,
   .mk .xraC [0b10101001] (.reg .c) 1,
   .mk .xraD [0b10101010] (.reg .d) 1,
   .mk .xraE [0b10101011] (.reg .e) 1,
   .mk .xraH [0b10101100] (.reg .h) 1,
   .mk .xraL [0b10101101] (.reg .l) 1,
   .mk .xraM [0b10101110] .m 1,
   .mk .xraA [0b10101111] (.reg .a) 1,
   .mk (.xri d8) [0b11101110, d8] (.imm d8) 2]

/-- ORA r, ORA M, ORI (R154, R155, R160). -/
def oraForms (d8 : Byte) : List AluForm :=
  [.mk .oraB [0b10110000] (.reg .b) 1,
   .mk .oraC [0b10110001] (.reg .c) 1,
   .mk .oraD [0b10110010] (.reg .d) 1,
   .mk .oraE [0b10110011] (.reg .e) 1,
   .mk .oraH [0b10110100] (.reg .h) 1,
   .mk .oraL [0b10110101] (.reg .l) 1,
   .mk .oraM [0b10110110] .m 1,
   .mk .oraA [0b10110111] (.reg .a) 1,
   .mk (.ori d8) [0b11110110, d8] (.imm d8) 2]

/-- CMP r, CMP M, CPI (R156, R157, R161). -/
def cmpForms (d8 : Byte) : List AluForm :=
  [.mk .cmpB [0b10111000] (.reg .b) 1,
   .mk .cmpC [0b10111001] (.reg .c) 1,
   .mk .cmpD [0b10111010] (.reg .d) 1,
   .mk .cmpE [0b10111011] (.reg .e) 1,
   .mk .cmpH [0b10111100] (.reg .h) 1,
   .mk .cmpL [0b10111101] (.reg .l) 1,
   .mk .cmpM [0b10111110] .m 1,
   .mk .cmpA [0b10111111] (.reg .a) 1,
   .mk (.cpi d8) [0b11111110, d8] (.imm d8) 2]

/-- INR r: `00ddd100` (R134). -/
def inrForms : List RegForm :=
  [.mk .inrB [0b00000100] .b,
   .mk .inrC [0b00001100] .c,
   .mk .inrD [0b00010100] .d,
   .mk .inrE [0b00011100] .e,
   .mk .inrH [0b00100100] .h,
   .mk .inrL [0b00101100] .l,
   .mk .inrA [0b00111100] .a]

/-- DCR r: `00ddd101` (R136). -/
def dcrForms : List RegForm :=
  [.mk .dcrB [0b00000101] .b,
   .mk .dcrC [0b00001101] .c,
   .mk .dcrD [0b00010101] .d,
   .mk .dcrE [0b00011101] .e,
   .mk .dcrH [0b00100101] .h,
   .mk .dcrL [0b00101101] .l,
   .mk .dcrA [0b00111101] .a]

/-- INX rp: `00rp0011` (R138). -/
def inxForms : List PairForm :=
  [.mk .inxB [0b00000011] .bc,
   .mk .inxD [0b00010011] .de,
   .mk .inxH [0b00100011] .hl,
   .mk .inxSp [0b00110011] .sp]

/-- DCX rp: `00rp1011` (R139). -/
def dcxForms : List PairForm :=
  [.mk .dcxB [0b00001011] .bc,
   .mk .dcxD [0b00011011] .de,
   .mk .dcxH [0b00101011] .hl,
   .mk .dcxSp [0b00111011] .sp]

/-- DAD rp: `00rp1001` (R140). -/
def dadForms : List PairForm :=
  [.mk .dadB [0b00001001] .bc,
   .mk .dadD [0b00011001] .de,
   .mk .dadH [0b00101001] .hl,
   .mk .dadSp [0b00111001] .sp]

/-- JMP and the eight Jcc: `11ccc010 lo hi` (R187 to R195), with the flag condition of R186. -/
def jumpForms (a16 : Word) : List ConditionForm :=
  [.mk (.jmp a16) [0b11000011, loByte a16, hiByte a16] (fun _ => true),
   .mk (.jnz a16) [0b11000010, loByte a16, hiByte a16] (fun f => !f.z),
   .mk (.jz a16) [0b11001010, loByte a16, hiByte a16] (fun f => f.z),
   .mk (.jnc a16) [0b11010010, loByte a16, hiByte a16] (fun f => !f.cy),
   .mk (.jc a16) [0b11011010, loByte a16, hiByte a16] (fun f => f.cy),
   .mk (.jpo a16) [0b11100010, loByte a16, hiByte a16] (fun f => !f.p),
   .mk (.jpe a16) [0b11101010, loByte a16, hiByte a16] (fun f => f.p),
   .mk (.jp a16) [0b11110010, loByte a16, hiByte a16] (fun f => !f.s),
   .mk (.jm a16) [0b11111010, loByte a16, hiByte a16] (fun f => f.s)]

/-- CALL and the eight Ccc: `11ccc100 lo hi` (R196 to R204). -/
def callForms (a16 : Word) : List ConditionForm :=
  [.mk (.call a16) [0b11001101, loByte a16, hiByte a16] (fun _ => true),
   .mk (.cnz a16) [0b11000100, loByte a16, hiByte a16] (fun f => !f.z),
   .mk (.cz a16) [0b11001100, loByte a16, hiByte a16] (fun f => f.z),
   .mk (.cnc a16) [0b11010100, loByte a16, hiByte a16] (fun f => !f.cy),
   .mk (.cc a16) [0b11011100, loByte a16, hiByte a16] (fun f => f.cy),
   .mk (.cpo a16) [0b11100100, loByte a16, hiByte a16] (fun f => !f.p),
   .mk (.cpe a16) [0b11101100, loByte a16, hiByte a16] (fun f => f.p),
   .mk (.cp a16) [0b11110100, loByte a16, hiByte a16] (fun f => !f.s),
   .mk (.cm a16) [0b11111100, loByte a16, hiByte a16] (fun f => f.s)]

/-- RET and the eight Rcc: `11ccc000` (R205 to R213). -/
def returnForms : List ConditionForm :=
  [.mk .ret [0b11001001] (fun _ => true),
   .mk .rnz [0b11000000] (fun f => !f.z),
   .mk .rz [0b11001000] (fun f => f.z),
   .mk .rnc [0b11010000] (fun f => !f.cy),
   .mk .rc [0b11011000] (fun f => f.cy),
   .mk .rpo [0b11100000] (fun f => !f.p),
   .mk .rpe [0b11101000] (fun f => f.p),
   .mk .rp [0b11110000] (fun f => !f.s),
   .mk .rm [0b11111000] (fun f => f.s)]

/-- RST n: `11nnn111` (R214). -/
def restartForms : List (Instr × Byte × Nat) :=
  [(.rst0, 0b11000111, 0),
   (.rst1, 0b11001111, 1),
   (.rst2, 0b11010111, 2),
   (.rst3, 0b11011111, 3),
   (.rst4, 0b11100111, 4),
   (.rst5, 0b11101111, 5),
   (.rst6, 0b11110111, 6),
   (.rst7, 0b11111111, 7)]

/-- PUSH B, PUSH D, PUSH H: `11rp0101` (R220). -/
def pushForms : List PairForm :=
  [.mk .pushB [0b11000101] .bc,
   .mk .pushD [0b11010101] .de,
   .mk .pushH [0b11100101] .hl]

/-- POP B, POP D, POP H: `11rp0001` (R222). -/
def popForms : List PairForm :=
  [.mk .popB [0b11000001] .bc,
   .mk .popD [0b11010001] .de,
   .mk .popH [0b11100001] .hl]

/-- PUSH of a pair with the POP of the same pair (R220, R222). -/
def pushPopForms : List (Instr × Instr × Pair) :=
  [(.pushB, .popB, .bc), (.pushD, .popD, .de), (.pushH, .popH, .hl)]

/-- The twelve unassigned bytes (R92). -/
def illegalForms : List (Instr × Byte) :=
  [(.illegal08, 0x08),
   (.illegal10, 0x10),
   (.illegal18, 0x18),
   (.illegal20, 0x20),
   (.illegal28, 0x28),
   (.illegal30, 0x30),
   (.illegal38, 0x38),
   (.illegalcb, 0xCB),
   (.illegald9, 0xD9),
   (.illegaldd, 0xDD),
   (.illegaled, 0xED),
   (.illegalfd, 0xFD)]

end Sys2Proof.Claims

open Sys2Proof Sys2Proof.Machine Sys2Proof.Claims

/-- DERIVED from R84, R85, R91: for every instruction, with every operand at every value, decoding its encoding gives it
back and leaves the bytes that follow. General knowledge that the spec marks as such: R84, R91 (log 13). That an illegal
byte is an instruction of one byte is the model's choice (log 10). -/
def Obligations.DecodeInvertsEncode : Prop :=
  ∀ (i : Instr) (rest : List Byte), decode (encode i ++ rest) = .ok (i, rest)

/-- DERIVED from R83, R84, R93: each sequence of bytes has one meaning, so encoding the decoded instruction gives the bytes
it was read from. General knowledge that the spec marks as such: R84 (log 13). That an illegal byte is an instruction of
one byte is the model's choice (log 10). -/
def Obligations.EncodeInvertsDecode : Prop :=
  ∀ (bs : List Byte) (i : Instr) (rest : List Byte), decode bs = .ok (i, rest) → encode i ++ rest = bs

/-- DERIVED from R84, R93 ("The length of an instruction is a function of its opcode byte alone"): decode consumes that many
bytes, and rejects only what is shorter. For the twelve illegal bytes R92 says "Length: none is defined (no operand
bytes are read)": that they decode, as one byte, is the model's choice (log 10, log 11). General knowledge that the spec
marks as such: R84 (log 13). -/
def Obligations.LengthIsAFunctionOfTheOpcode : Prop :=
  ∀ (op : Byte) (rest : List Byte),
    (rest.length + 1 < opcodeLength op → decode (op :: rest) = .error (.truncated op)) ∧
    (opcodeLength op ≤ rest.length + 1 →
      ∃ i, decode (op :: rest) = .ok (i, (op :: rest).drop (opcodeLength op)) ∧ i.length = opcodeLength op)

/-- DERIVED: words of the encodings of R85, R100, R104, R129, R160, R172, R191, R196, R214, R221, R231, R240, one of each
family. General knowledge that the spec marks as such: R91 (log 13). -/
def Obligations.KnownWordsDecode : Prop :=
  decode [0x21, 0x34, 0x12] = .ok (.lxiH 0x1234, []) ∧
  decode [0x48] = .ok (.movCB, []) ∧
  decode [0x36, 0xAA] = .ok (.mviM 0xAA, []) ∧
  decode [0x8E] = .ok (.adcM, []) ∧
  decode [0xF6, 0x0F] = .ok (.ori 0x0F, []) ∧
  decode [0x17] = .ok (.ral, []) ∧
  decode [0xDA, 0x10, 0x00] = .ok (.jc 0x0010, []) ∧
  decode [0xCD, 0x00, 0x03] = .ok (.call 0x0300, []) ∧
  decode [0xCF] = .ok (.rst1, []) ∧
  decode [0xF5] = .ok (.pushPsw, []) ∧
  decode [0x76] = .ok (.hlt, []) ∧
  decode [0xDB, 0x03] = .ok (.inp 0x03, [])

/-- DERIVED from R81, R82: a step of a state that is not halted is the handler of the instruction decoded from the bytes at
PC; a legal opcode then adds its cost to CYC, whatever the cost table. Rests on the spec's own decisions D5, D7, D13,
D14 (log 18). That an illegal byte is an instruction whose effect is its FatalDecodeError is log 10. -/
def Obligations.StepRunsTheDecodedInstruction : Prop :=
  ∀ (s : State) (i : Instr) (rest : List Byte), s.halted = false → decode (fetchBytes s) = .ok (i, rest) →
    (∀ t, exec i s = .next t → isIllegal (opcodeOf i) = false →
      step s = .next { t with cyc := t.cyc + t.cfg.cycleCost[(opcodeOf i).toNat]'((opcodeOf i).isLt) }) ∧
    (∀ t, exec i s = .next t → isIllegal (opcodeOf i) = true → step s = .next t) ∧
    (∀ r, exec i s = .refused r → step s = .refused r)

/-- DERIVED from R59, R74, R81: memory holding the encoding of i at PC is enough for the step to execute i; every byte is
read before any effect. Rests on the spec's own decisions D5, D7, D27 (log 18). That the fit is checked by decoding the
bytes that exist is log 11. -/
def Obligations.StepRunsTheEncodingInMemory : Prop :=
  ∀ (s : State) (i : Instr), s.halted = false → i.wellFormedAt s.pc = true →
    (∀ k, k < i.length → s.mem.read (s.pc.toNat + k) = (encode i).getD k 0) →
    step s = accountResult i (exec i s)

/-- DERIVED from R87: `PC + length > 0x10000` ends the step before any effect. Rests on the spec's own decision D5 (log 18).
That an illegal byte counts as one byte is log 10 and log 11. -/
def Obligations.StraddlingInstructionIsNotExecuted : Prop :=
  ∀ s : State, s.halted = false → 65536 < s.pc.toNat + opcodeLength (s.mem.read s.pc.toNat) →
    step s = .next { s with halted := true, diag := s.diag ++ [.programCounterOverflow s.pc] }

/-- DERIVED from R80 ("A state with `HALTED == 1` has no step") and R15: that step answers the fault `halted` there is how
the model says it (log 6). That no other state faults is from R15, whose outcomes of a step are a next state or a
refusal. Rests on the spec's own decisions D15, D34 (log 18). -/
def Obligations.HaltedStateHasNoStep : Prop :=
  ∀ s : State, (s.halted = true → step s = .fault .halted) ∧ (s.halted = false → ∀ r, step s ≠ .fault r)

/-- DERIVED from R92, for each of the twelve bytes: the report has the opcode and its address; PC, registers, flags, memory
and CYC are unchanged, in the step as well. Rests on the spec's own decisions D6, D7 (log 18). That such a byte is an
instruction of one byte, R92 defining no length, is the model's choice (log 10). -/
def Obligations.IllegalByteRaisesFatalDecodeError : Prop :=
  ∀ f ∈ illegalForms, ∀ s : State,
    encode f.1 = [f.2] ∧
    exec f.1 s = .next { s with halted := true, diag := s.diag ++ [.fatalDecodeError f.2 s.pc] } ∧
    (s.halted = false → s.mem.read s.pc.toNat = f.2 →
      step s = .next { s with halted := true, diag := s.diag ++ [.fatalDecodeError f.2 s.pc] })

/-- R100, for its 49 forms: the named source goes to the named destination; no flag changes. -/
def Obligations.MovCopiesRegisterToRegister : Prop :=
  ∀ f ∈ movForms, ∀ s : State,
    encode f.instr = f.bytes ∧ exec f.instr s = .next (advanced 1 (putReg s f.dst (regOf s f.src)))

/-- R101, for its 7 forms, MOV H,M and MOV L,M among them. -/
def Obligations.MovLoadsRegisterFromMemory : Prop :=
  ∀ f ∈ movFromMemoryForms, ∀ s : State,
    encode f.instr = f.bytes ∧ exec f.instr s = .next (advanced 1 (putReg s f.reg (byteAtHl s)))

/-- R103 and R105, for every register, pair and immediate. -/
def Obligations.ImmediateLoads : Prop :=
  (∀ (d8 : Byte), ∀ f ∈ mviForms d8, ∀ s : State,
    encode f.instr = f.bytes ∧ exec f.instr s = .next (advanced 2 (putReg s f.reg d8))) ∧
  (∀ (d16 : Word), ∀ f ∈ lxiForms d16, ∀ s : State,
    encode f.instr = f.bytes ∧ exec f.instr s = .next (advanced 3 (putPair s f.pair d16)))

/-- DERIVED from R106, R108, R110, for every address; the high byte of LHLD at 0xFFFF comes from 0x0000. That LDAX exists
for BC and DE only is general knowledge that the spec marks as such: R108, G14 (log 13). -/
def Obligations.LoadsFromMemory : Prop :=
  ∀ (a16 : Word) (s : State),
    encode (.lda a16) = [0b00111010, loByte a16, hiByte a16] ∧
    exec (.lda a16) s = .next (advanced 3 (putReg s .a (s.mem.read a16.toNat))) ∧
    encode .ldaxB = [0b00001010] ∧
    exec .ldaxB s = .next (advanced 1 (putReg s .a (s.mem.read (pairOf s .bc).toNat))) ∧
    encode .ldaxD = [0b00011010] ∧
    exec .ldaxD s = .next (advanced 1 (putReg s .a (s.mem.read (pairOf s .de).toNat))) ∧
    encode (.lhld a16) = [0b00101010, loByte a16, hiByte a16] ∧
    exec (.lhld a16) s = .next (advanced 3
      { s with regs := { s.regs with
        l := s.mem.read a16.toNat
        h := s.mem.read ((a16.toNat + 1) % 65536) } })

/-- DERIVED from R102, R104, R107, R109 and the write policy R55: every byte of memory but the one at the form's address
reads as before; a suppressed write changes none, is reported in DIAG and, in strict mode, sets HALTED. The report and
strict mode rest on the spec's own decisions D23, D28 (log 18). General knowledge that the spec marks as such: R109 (log
13). -/
def Obligations.ByteStoresFollowTheWritePolicy : Prop :=
  ∀ (d8 : Byte) (a16 : Word) (s : State), ∀ f ∈ byteStoreForms d8 a16 s,
    encode f.instr = f.bytes ∧ Stores f.instr s [(f.addr.toNat, f.value)] (advanced f.length)

/-- DERIVED from R111 and R113: the second-byte address is a + 1 unreduced (so 0x10000 folds to 0x2000) under
WIDE_WRITE_FOLD, else modulo 2^16; each byte follows the write policy by itself, low byte first. Rests on the spec's own
decisions D2, D24 (log 18). General knowledge that the spec marks as such: R113 (log 13). The write policy (R55) rests
on D23, D28 (log 18). -/
def Obligations.WordStoresFoldTheSecondAddress : Prop :=
  ∀ (a16 : Word) (s : State),
    encode (.shld a16) = [0b00100010, loByte a16, hiByte a16] ∧
    Stores (.shld a16) s [(a16.toNat, s.regs.l), (secondAddr s a16, s.regs.h)] (advanced 3) ∧
    encode .xthl = [0b11100011] ∧
    Stores .xthl s [(s.sp.toNat, s.regs.l), (secondAddr s s.sp, s.regs.h)]
      (fun u => advanced 1 (putPair u .hl (stackTop s)))

/-- DERIVED from R112, R114, R115. Rests on the spec's own decision D22 (log 18). General knowledge that the spec marks as
such: R112 (log 13). -/
def Obligations.ExchangesAndPointerLoads : Prop :=
  ∀ s : State,
    encode .xchg = [0b11101011] ∧
    exec .xchg s = .next (advanced 1
      { s with regs := { s.regs with d := s.regs.h, e := s.regs.l, h := s.regs.d, l := s.regs.e } }) ∧
    encode .sphl = [0b11111001] ∧
    exec .sphl s = .next (advanced 1 { s with sp := pairOf s .hl }) ∧
    encode .pchl = [0b11101001] ∧
    exec .pchl s = .next { s with pc := pairOf s .hl }

/-- R120, R126 to R129, R162, R163, for every form: sum, carry, auxiliary carry and S Z P of exact numbers. -/
def Obligations.AdditionsSetAAndAllFlags : Prop :=
  ∀ (d8 : Byte) (s : State),
    (∀ f ∈ addForms d8, encode f.instr = f.bytes ∧
      exec f.instr s = .next (advanced f.length (afterAdd s (operandOf s f.operand) 0))) ∧
    (∀ f ∈ adcForms d8, encode f.instr = f.bytes ∧
      exec f.instr s = .next (advanced f.length (afterAdd s (operandOf s f.operand) s.flags.cy.toNat)))

/-- DERIVED from R130 to R133, R164, R165, for every form, with AC in the equivalent comparison form of R121. The AC clause
rests on the spec's own decision D19 (log 18). -/
def Obligations.SubtractionsSetAAndAllFlags : Prop :=
  ∀ (d8 : Byte) (s : State),
    (∀ f ∈ subForms d8, encode f.instr = f.bytes ∧
      exec f.instr s = .next (advanced f.length (afterSub s (operandOf s f.operand) 0))) ∧
    (∀ f ∈ sbbForms d8, encode f.instr = f.bytes ∧
      exec f.instr s = .next (advanced f.length (afterSub s (operandOf s f.operand) s.flags.cy.toNat)))

/-- DERIVED from R156, R157, R161. The AC clause rests on the spec's own decision D19 (log 18). -/
def Obligations.ComparesSetFlagsOnly : Prop :=
  ∀ (d8 : Byte) (s : State), ∀ f ∈ cmpForms d8, encode f.instr = f.bytes ∧
    exec f.instr s = .next (advanced f.length
      { s with flags := flagsOfSub s.regs.a.toNat (operandOf s f.operand).toNat 0 })

/-- DERIVED from R150, R151, R158, for both values of ANA_AC_MODE. The AC clause rests on the spec's own decision D20 (log
18). -/
def Obligations.AndsSetAAndFlags : Prop :=
  ∀ (d8 : Byte) (s : State), ∀ f ∈ anaForms d8, encode f.instr = f.bytes ∧
    exec f.instr s = .next (advanced f.length
      (afterLogic s (BitVec.ofNat 8 (s.regs.a.toNat &&& (operandOf s f.operand).toNat))
        (s.cfg.anaAcMode == .orBit3 &&
          (s.regs.a.toNat.testBit 3 || (operandOf s f.operand).toNat.testBit 3))))

/-- DERIVED from R152 to R155, R159, R160. Their AC = 0 is general knowledge that the spec marks as such: R123, G6 (log 13). -/
def Obligations.OrsAndXorsSetAAndFlags : Prop :=
  ∀ (d8 : Byte) (s : State),
    (∀ f ∈ xraForms d8, encode f.instr = f.bytes ∧
      exec f.instr s = .next (advanced f.length
        (afterLogic s (BitVec.ofNat 8 (s.regs.a.toNat ^^^ (operandOf s f.operand).toNat)) false))) ∧
    (∀ f ∈ oraForms d8, encode f.instr = f.bytes ∧
      exec f.instr s = .next (advanced f.length
        (afterLogic s (BitVec.ofNat 8 (s.regs.a.toNat ||| (operandOf s f.operand).toNat)) false)))

/-- DERIVED from R134 and R136. The AC clause rests on the spec's own decision D19 (log 18). General knowledge that the spec
marks as such: R134, R136 (log 13). -/
def Obligations.RegisterIncrementsKeepCarry : Prop :=
  ∀ s : State,
    (∀ f ∈ inrForms, encode f.instr = f.bytes ∧
      exec f.instr s = .next (advanced 1
        { putReg s f.reg (BitVec.ofNat 8 ((regOf s f.reg).toNat + 1)) with
          flags := flagsOfInr s.flags (regOf s f.reg) })) ∧
    (∀ f ∈ dcrForms, encode f.instr = f.bytes ∧
      exec f.instr s = .next (advanced 1
        { putReg s f.reg (BitVec.ofNat 8 ((regOf s f.reg).toNat + 255)) with
          flags := flagsOfDcr s.flags (regOf s f.reg) }))

/-- DERIVED from R135 and R137. The AC clause rests on the spec's own decision D19 (log 18). General knowledge that the spec
marks as such: R135, R137 (log 13). The write policy (R55) rests on D23, D28 (log 18). -/
def Obligations.MemoryIncrementsSetFlagsEvenWhenSuppressed : Prop :=
  ∀ s : State,
    encode .inrM = [0b00110100] ∧
    Stores .inrM s [((pairOf s .hl).toNat, BitVec.ofNat 8 ((byteAtHl s).toNat + 1))]
      (fun u => advanced 1 { u with flags := flagsOfInr s.flags (byteAtHl s) }) ∧
    encode .dcrM = [0b00110101] ∧
    Stores .dcrM s [((pairOf s .hl).toNat, BitVec.ofNat 8 ((byteAtHl s).toNat + 255))]
      (fun u => advanced 1 { u with flags := flagsOfDcr s.flags (byteAtHl s) })

/-- DERIVED from R138 and R139. That INX and DCX change no flag is general knowledge that the spec marks as such: G13, and
the examples of the two rules (log 13). -/
def Obligations.PairIncrementsWriteNoFlag : Prop :=
  ∀ s : State,
    (∀ f ∈ inxForms, encode f.instr = f.bytes ∧
      exec f.instr s = .next (advanced 1 (putPair s f.pair (BitVec.ofNat 16 ((pairOf s f.pair).toNat + 1))))) ∧
    (∀ f ∈ dcxForms, encode f.instr = f.bytes ∧
      exec f.instr s = .next (advanced 1 (putPair s f.pair (BitVec.ofNat 16 ((pairOf s f.pair).toNat + 65535)))))

/-- DERIVED from R140. That DAD changes no flag but CY is general knowledge that the spec marks as such: G13 (log 13). -/
def Obligations.DadAddsPairsAndSetsCarryOnly : Prop :=
  ∀ f ∈ dadForms, ∀ s : State, encode f.instr = f.bytes ∧
    exec f.instr s = .next (advanced 1
      { s with
        regs := { s.regs with
          h := BitVec.ofNat 8 (((pairOf s .hl).toNat + (pairOf s f.pair).toNat) / 256)
          l := BitVec.ofNat 8 ((pairOf s .hl).toNat + (pairOf s f.pair).toNat) }
        flags := { s.flags with cy := decide (65535 < (pairOf s .hl).toNat + (pairOf s f.pair).toNat) } })

/-- DERIVED from R141. Rests on the spec's own decision D21 (log 18). -/
def Obligations.DaaCorrectsBothNibbles : Prop :=
  ∀ s : State,
    let lo := s.regs.a.toNat % 16
    let hi := s.regs.a.toNat / 16
    let low := s.flags.ac || decide (9 < lo)
    let high := s.flags.cy || decide (9 < hi) || (decide (9 ≤ hi) && decide (9 < lo))
    let r := (s.regs.a.toNat + 6 * low.toNat + 96 * high.toNat) % 256
    encode .daa = [0b00100111] ∧
    exec .daa s = .next (advanced 1
      { s with
        regs := { s.regs with a := BitVec.ofNat 8 r }
        flags := flagsFor r (decide (15 < lo + 6 * low.toNat)) high })

/-- DERIVED from R141 ("the standard two-nibble BCD correction") and R163: on BCD operands the pair of instructions is
decimal addition with carry. Rests on the spec's own decision D21 (log 18). -/
def Obligations.DaaAfterAciAddsDecimals : Prop :=
  ∀ (d8 : Byte) (s : State), isBcd s.regs.a = true → isBcd d8 = true →
    ∃ t u, exec (.aci d8) s = .next t ∧ exec .daa t = .next u ∧
      isBcd u.regs.a = true ∧
      bcdValue u.regs.a = (bcdValue s.regs.a + bcdValue d8 + s.flags.cy.toNat) % 100 ∧
      u.flags.cy = decide (100 ≤ bcdValue s.regs.a + bcdValue d8 + s.flags.cy.toNat)

/-- DERIVED from R170 to R173, on numbers. The form of RRC and RAR (G15: R171, R173) and the flags a rotate leaves alone
(G8) are general knowledge that the spec marks as such (log 13). -/
def Obligations.RotatesMoveOneBit : Prop :=
  ∀ s : State,
    let a := s.regs.a.toNat
    let rotated := fun (r : Nat) (out : Bool) =>
      advanced 1 { s with regs := { s.regs with a := BitVec.ofNat 8 r }, flags := { s.flags with cy := out } }
    encode .rlc = [0b00000111] ∧ exec .rlc s = .next (rotated (2 * a % 256 + a / 128) (decide (128 ≤ a))) ∧
    encode .rrc = [0b00001111] ∧ exec .rrc s = .next (rotated (a / 2 + 128 * (a % 2)) (decide (a % 2 = 1))) ∧
    encode .ral = [0b00010111] ∧
    exec .ral s = .next (rotated (2 * a % 256 + s.flags.cy.toNat) (decide (128 ≤ a))) ∧
    encode .rar = [0b00011111] ∧
    exec .rar s = .next (rotated (a / 2 + 128 * s.flags.cy.toNat) (decide (a % 2 = 1)))

/-- DERIVED from the corner cases of R172 and R173: "a 9-bit rotation of CY:A; nine RALs restore A and CY". General
knowledge that the spec marks as such: R173 (log 13). -/
def Obligations.NineCarryRotatesRestore : Prop :=
  ∀ s : State,
    (∃ t, execTimes 9 .ral s = .next t ∧ t.regs = s.regs ∧ t.flags = s.flags) ∧
    (∃ t, execTimes 9 .rar s = .next t ∧ t.regs = s.regs ∧ t.flags = s.flags)

/-- DERIVED from R187 to R195 with their primitive R182. The flag each condition tests (R186, G4) is general knowledge that
the spec marks as such (log 13). -/
def Obligations.JumpsGoToTheirTarget : Prop :=
  ∀ (a16 : Word), ∀ f ∈ jumpForms a16, ∀ s : State, encode f.instr = f.bytes ∧
    exec f.instr s = .next (if f.taken s.flags then { s with pc := a16 } else advanced 3 s)

/-- DERIVED from R196 to R204 with their primitives R183 and push16 (R180), each byte under the write policy (R55). The
stack addresses, the order of the two stores, strict mode and the report rest on the spec's own decisions D2, D24, D23,
D28 (log 18); the flag each condition tests (R186, G4) is general knowledge that the spec marks as such (log 13). -/
def Obligations.CallsPushTheReturnAddress : Prop :=
  ∀ (a16 : Word), ∀ f ∈ callForms a16, ∀ s : State, encode f.instr = f.bytes ∧
    (f.taken s.flags = true → Stores f.instr s (pushWrites s (s.pc + 3))
      (fun u => { u with sp := s.sp - 2, pc := a16 })) ∧
    (f.taken s.flags = false → exec f.instr s = .next (advanced 3 s))

/-- DERIVED from R205 to R213 with their primitives R184 and pop16 (R181). The flag each condition tests (R186, G4) is
general knowledge that the spec marks as such (log 13). The CALL property of R205 is stated apart
(CallThenReturnResumes). -/
def Obligations.ReturnsPopTheirAddress : Prop :=
  ∀ f ∈ returnForms, ∀ s : State, encode f.instr = f.bytes ∧
    exec f.instr s = .next (if f.taken s.flags then { s with pc := stackTop s, sp := s.sp + 2 } else advanced 1 s)

/-- DERIVED from R214 and its primitive R185: the pushed address is PC + 1, the one past the 1-byte RST, by the spec's own
resolution of conflict C1; the two stores are those of push16 (R180) under the write policy (R55) and rest on its
decisions D2, D23, D24, D28 (log 18). -/
def Obligations.RestartsCallTheirVector : Prop :=
  ∀ f ∈ restartForms, ∀ s : State, encode f.1 = [f.2.1] ∧
    Stores f.1 s (pushWrites s (s.pc + 1)) (fun u => { u with sp := s.sp - 2, pc := BitVec.ofNat 16 (8 * f.2.2) })

/-- DERIVED from the source property in R205; the hypothesis on the stack is the write policy of R55, and the states between
are any that keep SP and the two stacked bytes. The stack addresses of push16 (R180) rest on D2 (log 18). -/
def Obligations.CallThenReturnResumes : Prop :=
  ∀ (a16 : Word) (s : State), pushStored s →
    ∃ t, exec (.call a16) s = .next t ∧ t.pc = a16 ∧
      ∀ v, SameStackTop t v → ∃ u, exec .ret v = .next u ∧ u.pc = s.pc + 3 ∧ u.sp = s.sp

/-- DERIVED from R220, R221 with push16 (R180) and the write policy (R55): the two stores rest on the spec's own decisions
D2, D23, D24, D28, and the fixed bits of the stacked flags byte (R29) on D18 (log 18), which is general knowledge the
spec marks as such (log 13). -/
def Obligations.PushesStoreTheirWord : Prop :=
  ∀ s : State,
    (∀ f ∈ pushForms, encode f.instr = f.bytes ∧
      Stores f.instr s (pushWrites s (pairOf s f.pair)) (fun u => advanced 1 { u with sp := s.sp - 2 })) ∧
    encode .pushPsw = [0b11110101] ∧
    Stores .pushPsw s (pushWrites s (joinBytes s.regs.a (pswByte s.flags)))
      (fun u => advanced 1 { u with sp := s.sp - 2 })

/-- DERIVED from R222 and R223 (the PUSH property of R222 is stated apart). -/
def Obligations.PopsLoadTheirWord : Prop :=
  ∀ s : State,
    (∀ f ∈ popForms, encode f.instr = f.bytes ∧
      exec f.instr s = .next (advanced 1 { putPair s f.pair (stackTop s) with sp := s.sp + 2 })) ∧
    encode .popPsw = [0b11110001] ∧
    exec .popPsw s = .next (advanced 1
      { s with
        regs := { s.regs with a := hiByte (stackTop s) }
        flags := flagsFromByte (loByte (stackTop s))
        sp := s.sp + 2 })

/-- DERIVED from the source property in R222, with the hypothesis on the stack that R55 makes necessary. The stack addresses
of push16 (R180) rest on D2, the packed flags byte (R29) on D18 (log 18). -/
def Obligations.PushThenPopRestores : Prop :=
  ∀ s : State, pushStored s →
    (∀ f ∈ pushPopForms, ∃ t, exec f.1 s = .next t ∧
      ∀ v, SameStackTop t v → ∃ u, exec f.2.1 v = .next u ∧ pairOf u f.2.2 = pairOf s f.2.2 ∧ u.sp = s.sp) ∧
    (∃ t, exec .pushPsw s = .next t ∧
      ∀ v, SameStackTop t v →
        ∃ u, exec .popPsw v = .next u ∧ u.regs.a = s.regs.a ∧ u.flags = s.flags ∧ u.sp = s.sp)

/-- DERIVED from R29 (the fixed bits are general knowledge the spec marks as such, D18). Rests on the spec's own decision
D18 (log 18). -/
def Obligations.PackedFlagsByteLayout : Prop :=
  (∀ f : Flags, flagsByte f = pswByte f ∧ flagsOfByte (flagsByte f) = f) ∧
  (∀ v : Byte, flagsOfByte v = flagsFromByte v ∧ flagsByte (flagsOfByte v) = (v &&& 0xD5) ||| 0x02)

/-- DERIVED from R230 to R236; the cycles of R230's example are the step's. That HLT advances PC is the spec's own decision
D11, that EI and DI take effect at once is D10 (log 18). General knowledge that the spec marks as such: R234 (log 13). -/
def Obligations.ControlInstructions : Prop :=
  ∀ s : State,
    encode .nop = [0b00000000] ∧ exec .nop s = .next (advanced 1 s) ∧
    encode .hlt = [0b01110110] ∧ exec .hlt s = .next (advanced 1 { s with halted := true }) ∧
    encode .di = [0b11110011] ∧ exec .di s = .next (advanced 1 { s with inte := false }) ∧
    encode .ei = [0b11111011] ∧ exec .ei s = .next (advanced 1 { s with inte := true }) ∧
    encode .cma = [0b00101111] ∧
    exec .cma s = .next (advanced 1 { s with regs := { s.regs with a := BitVec.ofNat 8 (255 - s.regs.a.toNat) } }) ∧
    encode .cmc = [0b00111111] ∧
    exec .cmc s = .next (advanced 1 { s with flags := { s.flags with cy := !s.flags.cy } }) ∧
    encode .stc = [0b00110111] ∧
    exec .stc s = .next (advanced 1 { s with flags := { s.flags with cy := true } })

/-- DERIVED from R240 with R66 and R70, for every port and both values of SHIFT_READ_MODE. Rests on the spec's own decisions
D15, D16, D17 (log 18). The refusal of a port with no latch is log 7. -/
def Obligations.InReadsLatchesAndShiftWindow : Prop :=
  ∀ (p : Byte) (s : State),
    encode (.inp p) = [0b11011011, p] ∧
    (∀ h : p.toNat < 3, exec (.inp p) s = .next (advanced 2 (putReg s .a (s.inLatch[p.toNat]'(by omega))))) ∧
    (p.toNat = 3 → s.cfg.shiftReadMode = .low →
      exec (.inp p) s = .next (advanced 2 (putReg s .a (BitVec.ofNat 8 (s.sr.toNat / 2 ^ (8 - s.soff.toNat)))))) ∧
    (p.toNat = 3 → s.cfg.shiftReadMode = .literalHigh →
      exec (.inp p) s = .next (advanced 2 (putReg s .a (BitVec.ofNat 8 (s.sr.toNat / 2 ^ (16 - s.soff.toNat)))))) ∧
    (4 ≤ p.toNat → exec (.inp p) s = .refused (.inPortWithoutLatch p))

/-- DERIVED from R241 with R67, R68 and R69, for every port. Rests on the spec's own decisions D15, D17 (log 18). The
refusal of a port with no latch is log 7. -/
def Obligations.OutWritesLatchesAndShiftDevice : Prop :=
  ∀ (p : Byte) (s : State),
    encode (.out p) = [0b11010011, p] ∧
    (∀ h : p.toNat < 7, p.toNat ≠ 2 → p.toNat ≠ 4 →
      exec (.out p) s = .next (advanced 2 { s with outLatch := s.outLatch.set p.toNat s.regs.a })) ∧
    (p.toNat = 2 → exec (.out p) s = .next (advanced 2 { s with soff := BitVec.ofNat 3 (s.regs.a.toNat % 8) })) ∧
    (p.toNat = 4 →
      exec (.out p) s = .next (advanced 2 { s with sr := BitVec.ofNat 16 (s.sr.toNat / 256 + 256 * s.regs.a.toNat) })) ∧
    (7 ≤ p.toNat → exec (.out p) s = .refused (.outPortWithoutLatch p))

/-- DERIVED from R68, R69, R70: the device end to end, from any state with SHIFT_READ_MODE low. Rests on the spec's own
decision D16 (log 18). -/
def Obligations.ShiftDeviceReadsAWindow : Prop :=
  ∀ (x y k : Byte) (s : State), s.cfg.shiftReadMode = .low →
    ∃ s1 s2 s3 s4 s5 s6 t,
      exec (.mviA x) s = .next s1 ∧ exec (.out 4) s1 = .next s2 ∧ exec (.mviA y) s2 = .next s3 ∧
      exec (.out 4) s3 = .next s4 ∧ exec (.mviA k) s4 = .next s5 ∧ exec (.out 2) s5 = .next s6 ∧
      exec (.inp 3) s6 = .next t ∧
      t.regs.a = BitVec.ofNat 8 ((256 * y.toNat + x.toNat) / 2 ^ (8 - k.toNat % 8))

/-- DERIVED from R31 and R32 ("instructions not defining a flag must leave it unchanged"), over all 256 opcodes. -/
def Obligations.OnlyTheListedInstructionsWriteFlags : Prop :=
  ∀ (i : Instr) (s t : State), exec i s = .next t →
    ((flagsWritten (opcodeOf i).toNat).s = false → t.flags.s = s.flags.s) ∧
    ((flagsWritten (opcodeOf i).toNat).z = false → t.flags.z = s.flags.z) ∧
    ((flagsWritten (opcodeOf i).toNat).ac = false → t.flags.ac = s.flags.ac) ∧
    ((flagsWritten (opcodeOf i).toNat).p = false → t.flags.p = s.flags.p) ∧
    ((flagsWritten (opcodeOf i).toNat).cy = false → t.flags.cy = s.flags.cy)

/-- DERIVED from R52 and R251, over all 256 opcodes. Rests on the spec's own decisions D23, D38 (log 18). -/
def Obligations.OnlyTheListedInstructionsStore : Prop :=
  ∀ (i : Instr) (s t : State), storesToMemory (opcodeOf i).toNat = false → exec i s = .next t →
    ∀ a, t.mem.read a = s.mem.read a

/-- DERIVED from R33 to R37, R39, R41, over all 256 opcodes: "No instruction clears" HALTED; CYC is the step's, IN_LATCH the
host's. Rests on the spec's own decisions D11, D14, D15, D17, D23 (log 18). The parameters are a field of the model's
State (log 1). -/
def Obligations.ProcessorStatusWriters : Prop :=
  ∀ (i : Instr) (s t : State), exec i s = .next t →
    (i ≠ .ei → i ≠ .di → t.inte = s.inte) ∧
    ((∀ p, i ≠ .out p) → t.sr = s.sr ∧ t.soff = s.soff ∧ t.outLatch = s.outLatch) ∧
    (s.halted = true → t.halted = true) ∧
    t.inLatch = s.inLatch ∧ t.cyc = s.cyc ∧ t.cfg = s.cfg

/-- DERIVED from R54 and R55, with R56: in test mode nothing is suppressed. Rests on the spec's own decisions D23, D28 (log
18). -/
def Obligations.WritePolicy : Prop :=
  (∀ a, wrapAddr a = target a ∧ (65536 ≤ a → 8192 ≤ target a ∧ target a < 16384)) ∧
  (∀ (a : Nat) (v : Byte) (s : State),
    (blocked s a = true → memWrite a v s =
      { s with
        diag := s.diag ++ [.illegalWrite (BitVec.ofNat 16 (target a)) v s.pc]
        halted := s.halted || s.cfg.strictIllegalWrite }) ∧
    (blocked s a = false → ∃ m, memWrite a v s = { s with mem := m } ∧
      ∀ b, m.read b = if b = target a then v else s.mem.read b) ∧
    (s.cfg.mode = .test → blocked s a = false))

/-- DERIVED (the model's own form of MEM, R40, R50; log 5): equal contents are equal data. -/
def Obligations.CanonicalMemoriesAreDeterminedByTheirBytes : Prop :=
  ∀ m n : Memory, m.wf = true → n.wf = true → (∀ a, m.read a = n.read a) → m = n

/-- DERIVED from R300 (the form is the model's own; log 5). Rests on the spec's own decisions D8, D9, D25, D31 (log 18). -/
def Obligations.InvariantAtResetAndAfterLoad : Prop :=
  Inv State.reset ∧ ∀ (cfg : Config) (image : List Byte) (s : State), load cfg image = .success s → Inv s

/-- DERIVED (the form is the model's own; log 5): an invariant that every step keeps, over all states and instructions.
Rests on the spec's own decisions D23, D28 (log 18). -/
def Obligations.EveryStepKeepsTheInvariant : Prop :=
  ∀ s t : State, Inv s → step s = .next t → Inv t

/-- DERIVED from R55, R65 and R76: the write protection "applies to every write regardless of what executes it" (R275), the
host's included. Rests on the spec's own decisions D23, D26, D28, D29 (log 18). MODE is a field of the model's State
(log 1); the host's calls are events beside step (log 8). -/
def Obligations.RunsNeverChangeTheRom : Prop :=
  ∀ (es : List Event) (s t : State), runEvents es s = .next t → RomKept s t

/-- DERIVED from R38 ("this append-only log, which the core never reads and never clears") and R41. The parameters are a
field of the model's State (log 1) and the canonical form of memory is the model's own (log 5); that the host's calls
are events beside step is log 8. Rests on the spec's own decision D28 (log 18). -/
def Obligations.RunsKeepParametersAndOnlyExtendTheLog : Prop :=
  ∀ (es : List Event) (s t : State), runEvents es s = .next t → t.cfg = s.cfg ∧ LogGrows s t ∧ (Inv s → Inv t)

/-- DERIVED from R82, R270 and C9 ("CYC never decreases through a step"), R39. Rests on the spec's own decisions D13, D14,
D15, D17 (log 18). -/
def Obligations.CyclesOnlyAddUpThroughSteps : Prop :=
  ∀ s t : State, step s = .next t →
    (t.cyc = s.cyc ∨
      t.cyc = s.cyc + s.cfg.cycleCost[(s.mem.read s.pc.toNat).toNat]'((s.mem.read s.pc.toNat).isLt)) ∧
    t.inLatch = s.inLatch

/-- DERIVED from R38 ("the core never reads") and R37, R270 ("A program cannot read CYC"). Rests on the spec's own decisions
D14, D28 (log 18). The stops of step are log 6 and log 7. -/
def Obligations.TheCoreNeverReadsItsLogOrItsCounter : Prop :=
  ∀ (s : State) (d : List Report) (n : Nat),
    (∀ t, step s = .next t → ∃ new k, t.diag = s.diag ++ new ∧ t.cyc = s.cyc + k ∧
      step { s with diag := d, cyc := n } = .next { t with diag := d ++ new, cyc := n + k }) ∧
    (∀ r, step s = .fault r → step { s with diag := d, cyc := n } = .fault r) ∧
    (∀ r, step s = .refused r → step { s with diag := d, cyc := n } = .refused r)

/-- DERIVED from R261 and R265: a request arriving while disabled is dropped, not deferred. Ids are natural numbers (log
14). R265 is marked [derived] by the spec. -/
def Obligations.DisabledInterruptsAreDropped : Prop :=
  (∀ (id : Nat) (s : State), s.inte = false → raiseInterrupt id s = .next s) ∧
  (∀ (id id2 : Nat) (s t : State), s.inte = true → raiseInterrupt id s = .next t → raiseInterrupt id2 t = .next t)

/-- DERIVED from R262 with R264, push16 (R180) and the write policy (R55). That a report names PC - 1 is log 17, as vector
IN10 shows; that the map is read at its first match is log 14; that an id outside it is refused is D12. Rests on the
spec's own decisions D2, D11, D12, D13, D23, D24, D28, D32 (log 18). -/
def Obligations.AcceptanceEntersTheVector : Prop :=
  ∀ (id : Nat) (s : State), s.inte = true →
    (∀ n, s.cfg.intVectorMap.lookup id = some n →
      ∃ m : Memory, (∀ b, m.read b = contentsAfter s (pushWrites s s.pc) b) ∧
        raiseInterrupt id s = .next
          { s with
            mem := m
            diag := s.diag ++ reportsOf { s with pc := s.pc - 1 } (pushWrites s s.pc)
            halted := !s.cfg.haltWake &&
              (s.halted || (s.cfg.strictIllegalWrite && (pushWrites s s.pc).any fun w => blocked s w.1))
            sp := s.sp - 2
            pc := BitVec.ofNat 16 (8 * n.toNat)
            inte := false }) ∧
    (s.cfg.intVectorMap.lookup id = none → raiseInterrupt id s = .refused (.interruptIdNotMapped id))

/-- DERIVED from the source property in R263 and R266, with the hypothesis on the stack that R55 makes necessary. The map is
read at its first match (log 14). The acceptance (R262) rests on the spec's own decisions D2, D12, D32 (log 18). -/
def Obligations.InterruptThenReturnResumes : Prop :=
  ∀ (id : Nat) (n : BitVec 3) (s : State), s.inte = true → s.cfg.intVectorMap.lookup id = some n → pushStored s →
    ∃ t, raiseInterrupt id s = .next t ∧ t.inte = false ∧ t.pc = BitVec.ofNat 16 (8 * n.toNat) ∧
      t.regs = s.regs ∧ t.flags = s.flags ∧
      ∀ v, SameStackTop t v → ∃ u, exec .ret v = .next u ∧ u.pc = s.pc ∧ u.sp = s.sp

/-- DERIVED from R76 for memory, R282 for the input latches and R271 for the cycle counter. Rests on the spec's own
decisions D26 (R76) and D14 (R271) (log 18). The latch indices are those that exist (log 16); the write policy (R55)
rests on D23, D28 (log 18). -/
def Obligations.HostMemoryAccess : Prop :=
  (∀ (a : Nat) (s : State), a < 65536 → hostReadMemory a s = .ok (s.mem.read a)) ∧
  (∀ (a : Nat) (s : State), 65536 ≤ a → hostReadMemory a s = .error (.hostReadOutOfRange a)) ∧
  (∀ (a : Nat) (v : Byte) (s : State), ∃ m : Memory,
    (∀ b, m.read b = contentsAfter s [(a, v)] b) ∧ hostAct (.writeMemory a v) s = .next (written s [(a, v)] m)) ∧
  (∀ (i : Fin 4) (v : Byte) (s : State),
    hostAct (.setInputLatch i v) s = .next { s with inLatch := s.inLatch.set i.val v }) ∧
  (∀ s : State, hostAct .resetCycles s = .next { s with cyc := 0 })

/-- DERIVED from R44, for every choice of the parameters; which parameters State.reset has is the model's choice (log 2, log
3) and only named here. Rests on the spec's own decisions D8, D9 (log 18). That the parameters are a field of State is
log 1, an unlisted byte is log 5, the values the spec chose are log 4. -/
def Obligations.ResetValues : Prop :=
  (∀ cfg : Config,
    let s := State.initial cfg
    s.regs = ⟨0, 0, 0, 0, 0, 0, 0⟩ ∧ s.flags = ⟨false, false, false, false, false⟩ ∧
    (cfg.mode = .arcade → s.pc = 0x0000) ∧ (cfg.mode = .test → s.pc = 0x0100) ∧
    s.sp = cfg.spReset ∧ s.inte = false ∧ s.halted = false ∧ s.sr = 0 ∧ s.soff = 0 ∧ s.cyc = 0 ∧ s.diag = [] ∧
    (∀ i : Fin 4, s.inLatch[i] = 0) ∧ (∀ i : Fin 7, s.outLatch[i] = 0) ∧ (∀ a, s.mem.read a = 0) ∧ s.cfg = cfg) ∧
  State.reset = State.initial Config.default

/-- DERIVED from R300 and R301: the image copy bypasses the write protection and reports nothing. Rests on the spec's own
decisions D8, D9, D25, D31 (log 18). An unlisted byte reads 0x00 (log 5). -/
def Obligations.LoadPlacesTheImage : Prop :=
  ∀ (cfg : Config) (image : List Byte),
    let cap := if cfg.mode = .arcade then 8192 else 65280
    let base := if cfg.mode = .arcade then 0x0000 else 0x0100
    (cap < image.length → load cfg image = .romTooLarge) ∧
    (image.length ≤ cap → ∃ m : Memory, load cfg image = .success { State.initial cfg with mem := m } ∧
      ∀ a, m.read a = if base ≤ a then image.getD (a - base) 0 else 0)

/-- DERIVED from R96, for every instruction, offset and surrounding bytes, and its example `21 34 12`. The text of the line
is uninterpreted, its address is the offset and an illegal byte has no length (log 15, as R92 defines none). Rests on
the spec's own decision D36 (log 18). -/
def Obligations.DisassemblyListsOperandBytesHighToLow : Prop :=
  (∀ (before rest : List Byte) (i : Instr), disassemble (before ++ encode i ++ rest) before.length =
    .ok ⟨mnemonicOf (opcodeOf i), if isIllegal (opcodeOf i) then none else some i.length,
      Config.disasmFormat ⟨before.length, opcodeOf i, mnemonicOf (opcodeOf i), (encode i).tail.reverse⟩⟩) ∧
  disassemble [0x21, 0x34, 0x12] 0 =
    .ok ⟨"LXI H", some 3, Config.disasmFormat ⟨0, 0x21, "LXI H", [0x12, 0x34]⟩⟩
end

