-- ==== Sys2Proof/Laws/Decode.lean ====
section
/-! SUPPORT. What the decoder reads, once for each format of 30_encoding.md R84, from the entry of the opcode byte. -/

namespace Sys2Proof

theorem decode_f1 {op : Byte} {i : Instr} (rest : List Byte) (h : opEntry op = .f1 i) :
    decode (op :: rest) = .ok (i, rest) := by
  simp only [decode, h]

theorem decode_f2 {op : Byte} {make : Byte → Instr} (d : Byte) (rest : List Byte) (h : opEntry op = .f2 make) :
    decode (op :: d :: rest) = .ok (make d, rest) := by
  simp only [decode, h]

/-- The two operand bytes of a word, low byte first, give the word back (R59, R85). -/
theorem decode_f3 {op : Byte} {make : Word → Instr} (w : Word) (rest : List Byte) (h : opEntry op = .f3 make) :
    decode (op :: Machine.loByte w :: Machine.hiByte w :: rest) = .ok (make w, rest) := by
  simp only [decode, h, Machine.joinBytes_hiByte_loByte]

end Sys2Proof
end

