-- ==== Sys2Proof/Laws/Memory.lean ====
section
/-! SUPPORT. The laws of memory: a read after a write, the canonical form kept by every memory operation, the
contents of a loaded image. -/

namespace Sys2Proof.Machine

@[simp] theorem Memory.read_nil (a : Nat) : Memory.read [] a = Memory.unlisted := rfl

theorem Memory.read_cons (b : Nat) (v : Byte) (m : Memory) (a : Nat) :
    Memory.read ((b, v) :: m) a = if b = a then v else m.read a := rfl

theorem Memory.read_without (m : Memory) (a b : Nat) :
    (m.without a).read b = if b = a then Memory.unlisted else m.read b := by
  induction m with
  | nil => simp [Memory.without]
  | cons c rest ih =>
    obtain ⟨x, w⟩ := c
    by_cases hx : x = a
    · have he : Memory.without ((x, w) :: rest) a = Memory.without rest a := by simp [Memory.without, hx]
      rw [he, ih, Memory.read_cons]
      by_cases hb : b = a
      · simp [hb]
      · rw [if_neg hb, if_neg hb, if_neg (by omega)]
    · have he : Memory.without ((x, w) :: rest) a = (x, w) :: Memory.without rest a := by simp [Memory.without, hx]
      rw [he, Memory.read_cons, Memory.read_cons, ih]
      by_cases hb : b = a
      · rw [if_pos hb, if_pos hb, if_neg (by omega)]
      · rw [if_neg hb, if_neg hb]

theorem Memory.read_insert (m : Memory) (a b : Nat) (v : Byte) (h : ∀ c ∈ m, c.1 ≠ a) :
    (m.insert a v).read b = if b = a then v else m.read b := by
  induction m with
  | nil =>
    rw [Memory.insert, Memory.read_cons]
    by_cases hb : b = a
    · rw [if_pos hb, if_pos hb.symm]
    · rw [if_neg hb, if_neg (by omega)]
  | cons c rest ih =>
    obtain ⟨x, w⟩ := c
    have hx : x ≠ a := h (x, w) (by simp)
    have hr := ih fun c hc => h c (by simp [hc])
    rw [Memory.insert]
    split
    · rw [Memory.read_cons]
      by_cases hb : b = a
      · rw [if_pos hb, if_pos hb.symm]
      · rw [if_neg hb, if_neg (by omega)]
    · rw [Memory.read_cons, Memory.read_cons, hr]
      by_cases hb : b = a
      · rw [if_pos hb, if_pos hb, if_neg (by omega)]
      · rw [if_neg hb, if_neg hb]

/-- A read after a write: the byte written at its own address, every other byte as before. -/
theorem Memory.read_write (m : Memory) (a b : Nat) (v : Byte) :
    (m.write a v).read b = if b = a then v else m.read b := by
  simp only [Memory.write]
  split
  · rename_i hv
    rw [Memory.read_without, hv]
  · rw [Memory.read_insert _ _ _ _ (by intro c hc; simp [Memory.without] at hc; exact hc.2), Memory.read_without]
    by_cases hb : b = a <;> simp [hb]

theorem Memory.wfFrom_mono {m : Memory} {lo hi : Nat} (h : m.wfFrom hi = true) (hle : lo ≤ hi) :
    m.wfFrom lo = true := by
  cases m with
  | nil => rfl
  | cons c rest =>
    obtain ⟨a, v⟩ := c
    simp only [Memory.wfFrom, Bool.and_eq_true, decide_eq_true_eq] at h ⊢
    exact ⟨⟨⟨by omega, h.1.1.2⟩, h.1.2⟩, h.2⟩

theorem Memory.wfFrom_without {m : Memory} (a : Nat) {lo : Nat} (h : m.wfFrom lo = true) :
    (m.without a).wfFrom lo = true := by
  induction m generalizing lo with
  | nil => rfl
  | cons c rest ih =>
    obtain ⟨b, w⟩ := c
    simp only [Memory.wfFrom, Bool.and_eq_true, decide_eq_true_eq] at h
    by_cases hb : b = a
    · have := Memory.wfFrom_mono (ih h.2) (lo := lo) (by omega)
      simpa [Memory.without, List.filter_cons, hb] using this
    · have := ih h.2
      simp only [Memory.without] at this ⊢
      simp [hb, Memory.wfFrom, h.1.1.1, h.1.1.2, this]
      simpa using h.1.2

theorem Memory.wfFrom_insert {m : Memory} {a : Nat} {v : Byte} {lo : Nat} (h : m.wfFrom lo = true)
    (hm : ∀ c ∈ m, c.1 ≠ a) (hlo : lo ≤ a) (ha : a < memSize) (hv : v ≠ Memory.unlisted) :
    (m.insert a v).wfFrom lo = true := by
  induction m generalizing lo with
  | nil => simp [Memory.insert, Memory.wfFrom, hlo, ha, hv]
  | cons c rest ih =>
    obtain ⟨b, w⟩ := c
    have hne : b ≠ a := hm (b, w) (by simp)
    simp only [Memory.wfFrom, Bool.and_eq_true, decide_eq_true_eq] at h
    simp only [Memory.insert]
    split
    · rename_i hab
      simp only [Memory.wfFrom, Bool.and_eq_true, decide_eq_true_eq]
      exact ⟨⟨⟨hlo, ha⟩, by simpa using hv⟩, ⟨⟨by omega, h.1.1.2⟩, h.1.2⟩, h.2⟩
    · simp only [Memory.wfFrom, Bool.and_eq_true, decide_eq_true_eq]
      exact ⟨h.1, ih h.2 (fun c hc => hm c (by simp [hc])) (by omega)⟩

/-- A write below 0x10000 keeps the canonical form. -/
theorem Memory.wf_write {m : Memory} {a : Nat} (v : Byte) (h : m.wf = true) (ha : a < memSize) :
    (m.write a v).wf = true := by
  simp only [Memory.wf, Memory.write] at h ⊢
  split
  · exact Memory.wfFrom_without a h
  · rename_i hv
    exact Memory.wfFrom_insert (Memory.wfFrom_without a h)
      (by intro c hc; simp [Memory.without] at hc; exact hc.2) (Nat.zero_le a) ha hv

theorem Memory.read_below {m : Memory} {lo a : Nat} (h : m.wfFrom lo = true) (ha : a < lo) :
    m.read a = Memory.unlisted := by
  induction m generalizing lo with
  | nil => rfl
  | cons c rest ih =>
    obtain ⟨b, w⟩ := c
    simp only [Memory.wfFrom, Bool.and_eq_true, decide_eq_true_eq] at h
    rw [Memory.read_cons, if_neg (by omega)]
    exact ih h.2 (by omega)

/-- In canonical form nothing is listed at or above 0x10000. -/
theorem Memory.read_above {m : Memory} {lo a : Nat} (h : m.wfFrom lo = true) (ha : memSize ≤ a) :
    m.read a = Memory.unlisted := by
  induction m generalizing lo with
  | nil => rfl
  | cons c rest ih =>
    obtain ⟨b, w⟩ := c
    simp only [Memory.wfFrom, Bool.and_eq_true, decide_eq_true_eq] at h
    rw [Memory.read_cons, if_neg (by omega)]
    exact ih h.2

theorem Memory.wfFrom_ofImage (image : List Byte) (base lo : Nat) (hlo : lo ≤ base)
    (h : base + image.length ≤ memSize) : (Memory.ofImage base image).wfFrom lo = true := by
  induction image generalizing base lo with
  | nil => rfl
  | cons v rest ih =>
    simp only [List.length_cons] at h
    simp only [Memory.ofImage]
    split
    · exact ih _ _ (by omega) (by omega)
    · rename_i hv
      simp only [Memory.wfFrom, Bool.and_eq_true, decide_eq_true_eq]
      exact ⟨⟨⟨hlo, by omega⟩, by simpa using hv⟩, ih _ _ (Nat.le_refl _) (by omega)⟩

theorem Memory.wf_nil : Memory.wf [] = true := rfl

theorem Memory.read_ofImage_below (image : List Byte) (base a : Nat) (h : a < base) :
    (Memory.ofImage base image).read a = Memory.unlisted := by
  induction image generalizing base with
  | nil => rfl
  | cons v rest ih =>
    simp only [Memory.ofImage]
    split
    · exact ih _ (by omega)
    · rw [Memory.read_cons, if_neg (by omega)]
      exact ih _ (by omega)

/-- The contents of a loaded image: byte `a - base` of the image from `base` on, the unlisted byte elsewhere. -/
theorem Memory.read_ofImage (image : List Byte) (base a : Nat) (h : base ≤ a) :
    (Memory.ofImage base image).read a = image.getD (a - base) Memory.unlisted := by
  induction image generalizing base with
  | nil => simp [Memory.ofImage]
  | cons v rest ih =>
    simp only [Memory.ofImage]
    rcases Nat.eq_or_lt_of_le h with rfl | hlt
    · split
      · rename_i hv
        simp [Memory.read_ofImage_below rest (base + 1) base (by omega), hv]
      · simp [Memory.read_cons]
    · have hs : a - base = (a - (base + 1)) + 1 := by omega
      rw [hs, List.getD_cons_succ, ← ih (base + 1) (by omega)]
      split
      · rfl
      · rw [Memory.read_cons, if_neg (by omega)]

end Sys2Proof.Machine
end

