-- ==== Sys2Proof/Laws/State.lean ====
section
/-! SUPPORT. One lemma per field of State per update of Ops.lean, true by rfl, so that no proof unfolds a record update; the
register file's get and set. -/

namespace Sys2Proof.Machine

@[simp] theorem State.setRegs_regs (s : State) (r : Regs) : (s.setRegs r).regs = r := rfl
@[simp] theorem State.setRegs_sp (s : State) (r : Regs) : (s.setRegs r).sp = s.sp := rfl
@[simp] theorem State.setRegs_pc (s : State) (r : Regs) : (s.setRegs r).pc = s.pc := rfl
@[simp] theorem State.setRegs_flags (s : State) (r : Regs) : (s.setRegs r).flags = s.flags := rfl
@[simp] theorem State.setRegs_inte (s : State) (r : Regs) : (s.setRegs r).inte = s.inte := rfl
@[simp] theorem State.setRegs_halted (s : State) (r : Regs) : (s.setRegs r).halted = s.halted := rfl
@[simp] theorem State.setRegs_sr (s : State) (r : Regs) : (s.setRegs r).sr = s.sr := rfl
@[simp] theorem State.setRegs_soff (s : State) (r : Regs) : (s.setRegs r).soff = s.soff := rfl
@[simp] theorem State.setRegs_cyc (s : State) (r : Regs) : (s.setRegs r).cyc = s.cyc := rfl
@[simp] theorem State.setRegs_diag (s : State) (r : Regs) : (s.setRegs r).diag = s.diag := rfl
@[simp] theorem State.setRegs_inLatch (s : State) (r : Regs) : (s.setRegs r).inLatch = s.inLatch := rfl
@[simp] theorem State.setRegs_outLatch (s : State) (r : Regs) : (s.setRegs r).outLatch = s.outLatch := rfl
@[simp] theorem State.setRegs_mem (s : State) (r : Regs) : (s.setRegs r).mem = s.mem := rfl
@[simp] theorem State.setRegs_cfg (s : State) (r : Regs) : (s.setRegs r).cfg = s.cfg := rfl

@[simp] theorem State.setA_regs (s : State) (v : Byte) : (s.setA v).regs = { s.regs with a := v } := rfl
@[simp] theorem State.setA_sp (s : State) (v : Byte) : (s.setA v).sp = s.sp := rfl
@[simp] theorem State.setA_pc (s : State) (v : Byte) : (s.setA v).pc = s.pc := rfl
@[simp] theorem State.setA_flags (s : State) (v : Byte) : (s.setA v).flags = s.flags := rfl
@[simp] theorem State.setA_inte (s : State) (v : Byte) : (s.setA v).inte = s.inte := rfl
@[simp] theorem State.setA_halted (s : State) (v : Byte) : (s.setA v).halted = s.halted := rfl
@[simp] theorem State.setA_sr (s : State) (v : Byte) : (s.setA v).sr = s.sr := rfl
@[simp] theorem State.setA_soff (s : State) (v : Byte) : (s.setA v).soff = s.soff := rfl
@[simp] theorem State.setA_cyc (s : State) (v : Byte) : (s.setA v).cyc = s.cyc := rfl
@[simp] theorem State.setA_diag (s : State) (v : Byte) : (s.setA v).diag = s.diag := rfl
@[simp] theorem State.setA_inLatch (s : State) (v : Byte) : (s.setA v).inLatch = s.inLatch := rfl
@[simp] theorem State.setA_outLatch (s : State) (v : Byte) : (s.setA v).outLatch = s.outLatch := rfl
@[simp] theorem State.setA_mem (s : State) (v : Byte) : (s.setA v).mem = s.mem := rfl
@[simp] theorem State.setA_cfg (s : State) (v : Byte) : (s.setA v).cfg = s.cfg := rfl

@[simp] theorem State.setSp_regs (s : State) (v : Word) : (s.setSp v).regs = s.regs := rfl
@[simp] theorem State.setSp_sp (s : State) (v : Word) : (s.setSp v).sp = v := rfl
@[simp] theorem State.setSp_pc (s : State) (v : Word) : (s.setSp v).pc = s.pc := rfl
@[simp] theorem State.setSp_flags (s : State) (v : Word) : (s.setSp v).flags = s.flags := rfl
@[simp] theorem State.setSp_inte (s : State) (v : Word) : (s.setSp v).inte = s.inte := rfl
@[simp] theorem State.setSp_halted (s : State) (v : Word) : (s.setSp v).halted = s.halted := rfl
@[simp] theorem State.setSp_sr (s : State) (v : Word) : (s.setSp v).sr = s.sr := rfl
@[simp] theorem State.setSp_soff (s : State) (v : Word) : (s.setSp v).soff = s.soff := rfl
@[simp] theorem State.setSp_cyc (s : State) (v : Word) : (s.setSp v).cyc = s.cyc := rfl
@[simp] theorem State.setSp_diag (s : State) (v : Word) : (s.setSp v).diag = s.diag := rfl
@[simp] theorem State.setSp_inLatch (s : State) (v : Word) : (s.setSp v).inLatch = s.inLatch := rfl
@[simp] theorem State.setSp_outLatch (s : State) (v : Word) : (s.setSp v).outLatch = s.outLatch := rfl
@[simp] theorem State.setSp_mem (s : State) (v : Word) : (s.setSp v).mem = s.mem := rfl
@[simp] theorem State.setSp_cfg (s : State) (v : Word) : (s.setSp v).cfg = s.cfg := rfl

@[simp] theorem State.setPc_regs (s : State) (v : Word) : (s.setPc v).regs = s.regs := rfl
@[simp] theorem State.setPc_sp (s : State) (v : Word) : (s.setPc v).sp = s.sp := rfl
@[simp] theorem State.setPc_pc (s : State) (v : Word) : (s.setPc v).pc = v := rfl
@[simp] theorem State.setPc_flags (s : State) (v : Word) : (s.setPc v).flags = s.flags := rfl
@[simp] theorem State.setPc_inte (s : State) (v : Word) : (s.setPc v).inte = s.inte := rfl
@[simp] theorem State.setPc_halted (s : State) (v : Word) : (s.setPc v).halted = s.halted := rfl
@[simp] theorem State.setPc_sr (s : State) (v : Word) : (s.setPc v).sr = s.sr := rfl
@[simp] theorem State.setPc_soff (s : State) (v : Word) : (s.setPc v).soff = s.soff := rfl
@[simp] theorem State.setPc_cyc (s : State) (v : Word) : (s.setPc v).cyc = s.cyc := rfl
@[simp] theorem State.setPc_diag (s : State) (v : Word) : (s.setPc v).diag = s.diag := rfl
@[simp] theorem State.setPc_inLatch (s : State) (v : Word) : (s.setPc v).inLatch = s.inLatch := rfl
@[simp] theorem State.setPc_outLatch (s : State) (v : Word) : (s.setPc v).outLatch = s.outLatch := rfl
@[simp] theorem State.setPc_mem (s : State) (v : Word) : (s.setPc v).mem = s.mem := rfl
@[simp] theorem State.setPc_cfg (s : State) (v : Word) : (s.setPc v).cfg = s.cfg := rfl

@[simp] theorem State.setFlags_regs (s : State) (f : Flags) : (s.setFlags f).regs = s.regs := rfl
@[simp] theorem State.setFlags_sp (s : State) (f : Flags) : (s.setFlags f).sp = s.sp := rfl
@[simp] theorem State.setFlags_pc (s : State) (f : Flags) : (s.setFlags f).pc = s.pc := rfl
@[simp] theorem State.setFlags_flags (s : State) (f : Flags) : (s.setFlags f).flags = f := rfl
@[simp] theorem State.setFlags_inte (s : State) (f : Flags) : (s.setFlags f).inte = s.inte := rfl
@[simp] theorem State.setFlags_halted (s : State) (f : Flags) : (s.setFlags f).halted = s.halted := rfl
@[simp] theorem State.setFlags_sr (s : State) (f : Flags) : (s.setFlags f).sr = s.sr := rfl
@[simp] theorem State.setFlags_soff (s : State) (f : Flags) : (s.setFlags f).soff = s.soff := rfl
@[simp] theorem State.setFlags_cyc (s : State) (f : Flags) : (s.setFlags f).cyc = s.cyc := rfl
@[simp] theorem State.setFlags_diag (s : State) (f : Flags) : (s.setFlags f).diag = s.diag := rfl
@[simp] theorem State.setFlags_inLatch (s : State) (f : Flags) : (s.setFlags f).inLatch = s.inLatch := rfl
@[simp] theorem State.setFlags_outLatch (s : State) (f : Flags) : (s.setFlags f).outLatch = s.outLatch := rfl
@[simp] theorem State.setFlags_mem (s : State) (f : Flags) : (s.setFlags f).mem = s.mem := rfl
@[simp] theorem State.setFlags_cfg (s : State) (f : Flags) : (s.setFlags f).cfg = s.cfg := rfl

@[simp] theorem State.setInte_regs (s : State) (b : Bool) : (s.setInte b).regs = s.regs := rfl
@[simp] theorem State.setInte_sp (s : State) (b : Bool) : (s.setInte b).sp = s.sp := rfl
@[simp] theorem State.setInte_pc (s : State) (b : Bool) : (s.setInte b).pc = s.pc := rfl
@[simp] theorem State.setInte_flags (s : State) (b : Bool) : (s.setInte b).flags = s.flags := rfl
@[simp] theorem State.setInte_inte (s : State) (b : Bool) : (s.setInte b).inte = b := rfl
@[simp] theorem State.setInte_halted (s : State) (b : Bool) : (s.setInte b).halted = s.halted := rfl
@[simp] theorem State.setInte_sr (s : State) (b : Bool) : (s.setInte b).sr = s.sr := rfl
@[simp] theorem State.setInte_soff (s : State) (b : Bool) : (s.setInte b).soff = s.soff := rfl
@[simp] theorem State.setInte_cyc (s : State) (b : Bool) : (s.setInte b).cyc = s.cyc := rfl
@[simp] theorem State.setInte_diag (s : State) (b : Bool) : (s.setInte b).diag = s.diag := rfl
@[simp] theorem State.setInte_inLatch (s : State) (b : Bool) : (s.setInte b).inLatch = s.inLatch := rfl
@[simp] theorem State.setInte_outLatch (s : State) (b : Bool) : (s.setInte b).outLatch = s.outLatch := rfl
@[simp] theorem State.setInte_mem (s : State) (b : Bool) : (s.setInte b).mem = s.mem := rfl
@[simp] theorem State.setInte_cfg (s : State) (b : Bool) : (s.setInte b).cfg = s.cfg := rfl

@[simp] theorem State.setHalted_regs (s : State) (b : Bool) : (s.setHalted b).regs = s.regs := rfl
@[simp] theorem State.setHalted_sp (s : State) (b : Bool) : (s.setHalted b).sp = s.sp := rfl
@[simp] theorem State.setHalted_pc (s : State) (b : Bool) : (s.setHalted b).pc = s.pc := rfl
@[simp] theorem State.setHalted_flags (s : State) (b : Bool) : (s.setHalted b).flags = s.flags := rfl
@[simp] theorem State.setHalted_inte (s : State) (b : Bool) : (s.setHalted b).inte = s.inte := rfl
@[simp] theorem State.setHalted_halted (s : State) (b : Bool) : (s.setHalted b).halted = b := rfl
@[simp] theorem State.setHalted_sr (s : State) (b : Bool) : (s.setHalted b).sr = s.sr := rfl
@[simp] theorem State.setHalted_soff (s : State) (b : Bool) : (s.setHalted b).soff = s.soff := rfl
@[simp] theorem State.setHalted_cyc (s : State) (b : Bool) : (s.setHalted b).cyc = s.cyc := rfl
@[simp] theorem State.setHalted_diag (s : State) (b : Bool) : (s.setHalted b).diag = s.diag := rfl
@[simp] theorem State.setHalted_inLatch (s : State) (b : Bool) : (s.setHalted b).inLatch = s.inLatch := rfl
@[simp] theorem State.setHalted_outLatch (s : State) (b : Bool) : (s.setHalted b).outLatch = s.outLatch := rfl
@[simp] theorem State.setHalted_mem (s : State) (b : Bool) : (s.setHalted b).mem = s.mem := rfl
@[simp] theorem State.setHalted_cfg (s : State) (b : Bool) : (s.setHalted b).cfg = s.cfg := rfl

@[simp] theorem State.setSr_regs (s : State) (v : Word) : (s.setSr v).regs = s.regs := rfl
@[simp] theorem State.setSr_sp (s : State) (v : Word) : (s.setSr v).sp = s.sp := rfl
@[simp] theorem State.setSr_pc (s : State) (v : Word) : (s.setSr v).pc = s.pc := rfl
@[simp] theorem State.setSr_flags (s : State) (v : Word) : (s.setSr v).flags = s.flags := rfl
@[simp] theorem State.setSr_inte (s : State) (v : Word) : (s.setSr v).inte = s.inte := rfl
@[simp] theorem State.setSr_halted (s : State) (v : Word) : (s.setSr v).halted = s.halted := rfl
@[simp] theorem State.setSr_sr (s : State) (v : Word) : (s.setSr v).sr = v := rfl
@[simp] theorem State.setSr_soff (s : State) (v : Word) : (s.setSr v).soff = s.soff := rfl
@[simp] theorem State.setSr_cyc (s : State) (v : Word) : (s.setSr v).cyc = s.cyc := rfl
@[simp] theorem State.setSr_diag (s : State) (v : Word) : (s.setSr v).diag = s.diag := rfl
@[simp] theorem State.setSr_inLatch (s : State) (v : Word) : (s.setSr v).inLatch = s.inLatch := rfl
@[simp] theorem State.setSr_outLatch (s : State) (v : Word) : (s.setSr v).outLatch = s.outLatch := rfl
@[simp] theorem State.setSr_mem (s : State) (v : Word) : (s.setSr v).mem = s.mem := rfl
@[simp] theorem State.setSr_cfg (s : State) (v : Word) : (s.setSr v).cfg = s.cfg := rfl

@[simp] theorem State.setSoff_regs (s : State) (v : BitVec 3) : (s.setSoff v).regs = s.regs := rfl
@[simp] theorem State.setSoff_sp (s : State) (v : BitVec 3) : (s.setSoff v).sp = s.sp := rfl
@[simp] theorem State.setSoff_pc (s : State) (v : BitVec 3) : (s.setSoff v).pc = s.pc := rfl
@[simp] theorem State.setSoff_flags (s : State) (v : BitVec 3) : (s.setSoff v).flags = s.flags := rfl
@[simp] theorem State.setSoff_inte (s : State) (v : BitVec 3) : (s.setSoff v).inte = s.inte := rfl
@[simp] theorem State.setSoff_halted (s : State) (v : BitVec 3) : (s.setSoff v).halted = s.halted := rfl
@[simp] theorem State.setSoff_sr (s : State) (v : BitVec 3) : (s.setSoff v).sr = s.sr := rfl
@[simp] theorem State.setSoff_soff (s : State) (v : BitVec 3) : (s.setSoff v).soff = v := rfl
@[simp] theorem State.setSoff_cyc (s : State) (v : BitVec 3) : (s.setSoff v).cyc = s.cyc := rfl
@[simp] theorem State.setSoff_diag (s : State) (v : BitVec 3) : (s.setSoff v).diag = s.diag := rfl
@[simp] theorem State.setSoff_inLatch (s : State) (v : BitVec 3) : (s.setSoff v).inLatch = s.inLatch := rfl
@[simp] theorem State.setSoff_outLatch (s : State) (v : BitVec 3) : (s.setSoff v).outLatch = s.outLatch := rfl
@[simp] theorem State.setSoff_mem (s : State) (v : BitVec 3) : (s.setSoff v).mem = s.mem := rfl
@[simp] theorem State.setSoff_cfg (s : State) (v : BitVec 3) : (s.setSoff v).cfg = s.cfg := rfl

@[simp] theorem State.setCyc_regs (s : State) (n : Nat) : (s.setCyc n).regs = s.regs := rfl
@[simp] theorem State.setCyc_sp (s : State) (n : Nat) : (s.setCyc n).sp = s.sp := rfl
@[simp] theorem State.setCyc_pc (s : State) (n : Nat) : (s.setCyc n).pc = s.pc := rfl
@[simp] theorem State.setCyc_flags (s : State) (n : Nat) : (s.setCyc n).flags = s.flags := rfl
@[simp] theorem State.setCyc_inte (s : State) (n : Nat) : (s.setCyc n).inte = s.inte := rfl
@[simp] theorem State.setCyc_halted (s : State) (n : Nat) : (s.setCyc n).halted = s.halted := rfl
@[simp] theorem State.setCyc_sr (s : State) (n : Nat) : (s.setCyc n).sr = s.sr := rfl
@[simp] theorem State.setCyc_soff (s : State) (n : Nat) : (s.setCyc n).soff = s.soff := rfl
@[simp] theorem State.setCyc_cyc (s : State) (n : Nat) : (s.setCyc n).cyc = n := rfl
@[simp] theorem State.setCyc_diag (s : State) (n : Nat) : (s.setCyc n).diag = s.diag := rfl
@[simp] theorem State.setCyc_inLatch (s : State) (n : Nat) : (s.setCyc n).inLatch = s.inLatch := rfl
@[simp] theorem State.setCyc_outLatch (s : State) (n : Nat) : (s.setCyc n).outLatch = s.outLatch := rfl
@[simp] theorem State.setCyc_mem (s : State) (n : Nat) : (s.setCyc n).mem = s.mem := rfl
@[simp] theorem State.setCyc_cfg (s : State) (n : Nat) : (s.setCyc n).cfg = s.cfg := rfl

@[simp] theorem State.setMem_regs (s : State) (m : Memory) : (s.setMem m).regs = s.regs := rfl
@[simp] theorem State.setMem_sp (s : State) (m : Memory) : (s.setMem m).sp = s.sp := rfl
@[simp] theorem State.setMem_pc (s : State) (m : Memory) : (s.setMem m).pc = s.pc := rfl
@[simp] theorem State.setMem_flags (s : State) (m : Memory) : (s.setMem m).flags = s.flags := rfl
@[simp] theorem State.setMem_inte (s : State) (m : Memory) : (s.setMem m).inte = s.inte := rfl
@[simp] theorem State.setMem_halted (s : State) (m : Memory) : (s.setMem m).halted = s.halted := rfl
@[simp] theorem State.setMem_sr (s : State) (m : Memory) : (s.setMem m).sr = s.sr := rfl
@[simp] theorem State.setMem_soff (s : State) (m : Memory) : (s.setMem m).soff = s.soff := rfl
@[simp] theorem State.setMem_cyc (s : State) (m : Memory) : (s.setMem m).cyc = s.cyc := rfl
@[simp] theorem State.setMem_diag (s : State) (m : Memory) : (s.setMem m).diag = s.diag := rfl
@[simp] theorem State.setMem_inLatch (s : State) (m : Memory) : (s.setMem m).inLatch = s.inLatch := rfl
@[simp] theorem State.setMem_outLatch (s : State) (m : Memory) : (s.setMem m).outLatch = s.outLatch := rfl
@[simp] theorem State.setMem_mem (s : State) (m : Memory) : (s.setMem m).mem = m := rfl
@[simp] theorem State.setMem_cfg (s : State) (m : Memory) : (s.setMem m).cfg = s.cfg := rfl

@[simp] theorem State.setInLatch_regs (s : State) (v : Vector Byte 4) : (s.setInLatch v).regs = s.regs := rfl
@[simp] theorem State.setInLatch_sp (s : State) (v : Vector Byte 4) : (s.setInLatch v).sp = s.sp := rfl
@[simp] theorem State.setInLatch_pc (s : State) (v : Vector Byte 4) : (s.setInLatch v).pc = s.pc := rfl
@[simp] theorem State.setInLatch_flags (s : State) (v : Vector Byte 4) : (s.setInLatch v).flags = s.flags := rfl
@[simp] theorem State.setInLatch_inte (s : State) (v : Vector Byte 4) : (s.setInLatch v).inte = s.inte := rfl
@[simp] theorem State.setInLatch_halted (s : State) (v : Vector Byte 4) : (s.setInLatch v).halted = s.halted := rfl
@[simp] theorem State.setInLatch_sr (s : State) (v : Vector Byte 4) : (s.setInLatch v).sr = s.sr := rfl
@[simp] theorem State.setInLatch_soff (s : State) (v : Vector Byte 4) : (s.setInLatch v).soff = s.soff := rfl
@[simp] theorem State.setInLatch_cyc (s : State) (v : Vector Byte 4) : (s.setInLatch v).cyc = s.cyc := rfl
@[simp] theorem State.setInLatch_diag (s : State) (v : Vector Byte 4) : (s.setInLatch v).diag = s.diag := rfl
@[simp] theorem State.setInLatch_inLatch (s : State) (v : Vector Byte 4) : (s.setInLatch v).inLatch = v := rfl
@[simp] theorem State.setInLatch_outLatch (s : State) (v : Vector Byte 4) : (s.setInLatch v).outLatch = s.outLatch := rfl
@[simp] theorem State.setInLatch_mem (s : State) (v : Vector Byte 4) : (s.setInLatch v).mem = s.mem := rfl
@[simp] theorem State.setInLatch_cfg (s : State) (v : Vector Byte 4) : (s.setInLatch v).cfg = s.cfg := rfl

@[simp] theorem State.setOutLatch_regs (s : State) (v : Vector Byte 7) : (s.setOutLatch v).regs = s.regs := rfl
@[simp] theorem State.setOutLatch_sp (s : State) (v : Vector Byte 7) : (s.setOutLatch v).sp = s.sp := rfl
@[simp] theorem State.setOutLatch_pc (s : State) (v : Vector Byte 7) : (s.setOutLatch v).pc = s.pc := rfl
@[simp] theorem State.setOutLatch_flags (s : State) (v : Vector Byte 7) : (s.setOutLatch v).flags = s.flags := rfl
@[simp] theorem State.setOutLatch_inte (s : State) (v : Vector Byte 7) : (s.setOutLatch v).inte = s.inte := rfl
@[simp] theorem State.setOutLatch_halted (s : State) (v : Vector Byte 7) : (s.setOutLatch v).halted = s.halted := rfl
@[simp] theorem State.setOutLatch_sr (s : State) (v : Vector Byte 7) : (s.setOutLatch v).sr = s.sr := rfl
@[simp] theorem State.setOutLatch_soff (s : State) (v : Vector Byte 7) : (s.setOutLatch v).soff = s.soff := rfl
@[simp] theorem State.setOutLatch_cyc (s : State) (v : Vector Byte 7) : (s.setOutLatch v).cyc = s.cyc := rfl
@[simp] theorem State.setOutLatch_diag (s : State) (v : Vector Byte 7) : (s.setOutLatch v).diag = s.diag := rfl
@[simp] theorem State.setOutLatch_inLatch (s : State) (v : Vector Byte 7) : (s.setOutLatch v).inLatch = s.inLatch := rfl
@[simp] theorem State.setOutLatch_outLatch (s : State) (v : Vector Byte 7) : (s.setOutLatch v).outLatch = v := rfl
@[simp] theorem State.setOutLatch_mem (s : State) (v : Vector Byte 7) : (s.setOutLatch v).mem = s.mem := rfl
@[simp] theorem State.setOutLatch_cfg (s : State) (v : Vector Byte 7) : (s.setOutLatch v).cfg = s.cfg := rfl

@[simp] theorem State.report_regs (s : State) (r : Report) : (s.report r).regs = s.regs := rfl
@[simp] theorem State.report_sp (s : State) (r : Report) : (s.report r).sp = s.sp := rfl
@[simp] theorem State.report_pc (s : State) (r : Report) : (s.report r).pc = s.pc := rfl
@[simp] theorem State.report_flags (s : State) (r : Report) : (s.report r).flags = s.flags := rfl
@[simp] theorem State.report_inte (s : State) (r : Report) : (s.report r).inte = s.inte := rfl
@[simp] theorem State.report_halted (s : State) (r : Report) : (s.report r).halted = s.halted := rfl
@[simp] theorem State.report_sr (s : State) (r : Report) : (s.report r).sr = s.sr := rfl
@[simp] theorem State.report_soff (s : State) (r : Report) : (s.report r).soff = s.soff := rfl
@[simp] theorem State.report_cyc (s : State) (r : Report) : (s.report r).cyc = s.cyc := rfl
@[simp] theorem State.report_diag (s : State) (r : Report) : (s.report r).diag = s.diag ++ [r] := rfl
@[simp] theorem State.report_inLatch (s : State) (r : Report) : (s.report r).inLatch = s.inLatch := rfl
@[simp] theorem State.report_outLatch (s : State) (r : Report) : (s.report r).outLatch = s.outLatch := rfl
@[simp] theorem State.report_mem (s : State) (r : Report) : (s.report r).mem = s.mem := rfl
@[simp] theorem State.report_cfg (s : State) (r : Report) : (s.report r).cfg = s.cfg := rfl

@[simp] theorem Regs.get_set_same (r : Regs) (x : Reg) (v : Byte) : (r.set x v).get x = v := by
  cases x <;> rfl

theorem Regs.get_set_other (r : Regs) {x y : Reg} (v : Byte) (h : y ≠ x) : (r.set x v).get y = r.get y := by
  cases x <;> cases y <;> first | rfl | exact absurd rfl h

theorem Regs.ext_get {r q : Regs} (h : ∀ x, r.get x = q.get x) : r = q := by
  have hb := h .b; have hc := h .c; have hd := h .d; have he := h .e
  have hh := h .h; have hl := h .l; have ha := h .a
  cases r; cases q
  simp only [Regs.get] at hb hc hd he hh hl ha
  subst hb hc hd he hh hl ha
  rfl

end Sys2Proof.Machine
end

