-- ==== Sys2Proof/Laws/Ops.lean ====
section
/-! SUPPORT. For each shared operation, once, everything it does: the whole state after it, and its single fields. -/

namespace Sys2Proof.Machine

theorem wrapAddr_of_lt {a : Nat} (h : a < memSize) : wrapAddr a = a := if_pos h

theorem wrapAddr_of_ge {a : Nat} (h : memSize ≤ a) : wrapAddr a = a % romSize + romSize :=
  if_neg (Nat.not_lt.mpr h)

theorem wrapAddr_lt (a : Nat) : wrapAddr a < memSize := by
  rcases Nat.lt_or_ge a memSize with h | h
  · rw [wrapAddr_of_lt h]; exact h
  · rw [wrapAddr_of_ge h]
    have : a % romSize < romSize := Nat.mod_lt _ (by decide)
    simp only [romSize, memSize] at this ⊢
    omega

/-- The reports a write adds: one IllegalWrite if it is suppressed (R55). -/
def writeReports (a : Nat) (v : Byte) (s : State) : List Report :=
  if protectedAddr (wrapAddr a) s then [.illegalWrite (BitVec.ofNat 16 (wrapAddr a)) v s.pc] else []

/-- The memory a write leaves (R55). -/
def writtenMem (a : Nat) (v : Byte) (s : State) : Memory :=
  if protectedAddr (wrapAddr a) s then s.mem else s.mem.write (wrapAddr a) v

/-- Everything `memWrite` does: memory, DIAG and, in strict mode, HALTED. -/
theorem memWrite_eq (a : Nat) (v : Byte) (s : State) :
    memWrite a v s =
      { s with
        mem := writtenMem a v s
        diag := s.diag ++ writeReports a v s
        halted := s.halted || (protectedAddr (wrapAddr a) s && s.cfg.strictIllegalWrite) } := by
  unfold memWrite writtenMem writeReports
  split
  · split <;> simp_all [State.report, State.setHalted]
  · simp_all [State.setMem]

@[simp] theorem memWrite_regs (a : Nat) (v : Byte) (s : State) : (memWrite a v s).regs = s.regs := by rw [memWrite_eq]
@[simp] theorem memWrite_sp (a : Nat) (v : Byte) (s : State) : (memWrite a v s).sp = s.sp := by rw [memWrite_eq]
@[simp] theorem memWrite_pc (a : Nat) (v : Byte) (s : State) : (memWrite a v s).pc = s.pc := by rw [memWrite_eq]
@[simp] theorem memWrite_flags (a : Nat) (v : Byte) (s : State) : (memWrite a v s).flags = s.flags := by rw [memWrite_eq]
@[simp] theorem memWrite_inte (a : Nat) (v : Byte) (s : State) : (memWrite a v s).inte = s.inte := by rw [memWrite_eq]
@[simp] theorem memWrite_sr (a : Nat) (v : Byte) (s : State) : (memWrite a v s).sr = s.sr := by rw [memWrite_eq]
@[simp] theorem memWrite_soff (a : Nat) (v : Byte) (s : State) : (memWrite a v s).soff = s.soff := by rw [memWrite_eq]
@[simp] theorem memWrite_cyc (a : Nat) (v : Byte) (s : State) : (memWrite a v s).cyc = s.cyc := by rw [memWrite_eq]
@[simp] theorem memWrite_inLatch (a : Nat) (v : Byte) (s : State) : (memWrite a v s).inLatch = s.inLatch := by rw [memWrite_eq]
@[simp] theorem memWrite_outLatch (a : Nat) (v : Byte) (s : State) : (memWrite a v s).outLatch = s.outLatch := by rw [memWrite_eq]
@[simp] theorem memWrite_cfg (a : Nat) (v : Byte) (s : State) : (memWrite a v s).cfg = s.cfg := by rw [memWrite_eq]
@[simp] theorem memWrite_mem (a : Nat) (v : Byte) (s : State) : (memWrite a v s).mem = writtenMem a v s := by rw [memWrite_eq]
@[simp] theorem memWrite_diag (a : Nat) (v : Byte) (s : State) :
    (memWrite a v s).diag = s.diag ++ writeReports a v s := by rw [memWrite_eq]
@[simp] theorem memWrite_halted (a : Nat) (v : Byte) (s : State) :
    (memWrite a v s).halted = (s.halted || (protectedAddr (wrapAddr a) s && s.cfg.strictIllegalWrite)) := by rw [memWrite_eq]

/-- What each byte reads as after a write. -/
theorem writtenMem_read (a : Nat) (v : Byte) (s : State) (b : Nat) :
    (writtenMem a v s).read b =
      if wrapAddr a = b ∧ protectedAddr (wrapAddr a) s = false then v else s.mem.read b := by
  unfold writtenMem
  split
  · simp_all
  · rw [Memory.read_write]
    by_cases h : wrapAddr a = b
    · simp_all
    · rw [if_neg (fun h' => h h'.symm), if_neg (fun h' => h h'.1)]

theorem writtenMem_wf {a : Nat} {v : Byte} {s : State} (h : s.mem.wf = true) : (writtenMem a v s).wf = true := by
  unfold writtenMem
  split
  · exact h
  · exact Memory.wf_write v h (wrapAddr_lt a)

/-- In arcade mode a write leaves every byte of the ROM region alone. -/
theorem writtenMem_rom {a b : Nat} {v : Byte} {s : State} (hm : s.cfg.mode = .arcade) (hb : b < romSize) :
    (writtenMem a v s).read b = s.mem.read b := by
  rw [writtenMem_read, if_neg]
  rintro ⟨rfl, hp⟩
  simp [protectedAddr, hm, hb] at hp

theorem protectedAddr_congr {s t : State} (h : t.cfg = s.cfg) (a : Nat) : protectedAddr a t = protectedAddr a s := by
  simp [protectedAddr, h]

theorem ofNat_mod_memSize (n : Nat) : BitVec.ofNat 16 (n % memSize) = BitVec.ofNat 16 n := by
  apply BitVec.eq_of_toNat_eq
  simp [memSize]

/-- The reports a sequential advance adds: one ProgramCounterOverflow if PC + n reaches 0x10000 (R88). -/
def seqReports (n : Nat) (s : State) : List Report :=
  if s.pc.toNat + n < memSize then [] else [.programCounterOverflow s.pc]

/-- Everything `seq` does: PC modulo 2^16 and, past the top, HALTED and one report. -/
theorem seq_eq (n : Nat) (s : State) :
    seq n s =
      { s with
        pc := BitVec.ofNat 16 (s.pc.toNat + n)
        halted := s.halted || decide (memSize ≤ s.pc.toNat + n)
        diag := s.diag ++ seqReports n s } := by
  unfold seq seqReports
  split
  · rename_i h
    have : ¬memSize ≤ s.pc.toNat + n := by omega
    simp_all [State.setPc]
  · rename_i h
    have : memSize ≤ s.pc.toNat + n := by omega
    simp_all [State.setPc, raiseHalting, State.report, State.setHalted, ofNat_mod_memSize]

@[simp] theorem seq_regs (n : Nat) (s : State) : (seq n s).regs = s.regs := by rw [seq_eq]
@[simp] theorem seq_sp (n : Nat) (s : State) : (seq n s).sp = s.sp := by rw [seq_eq]
@[simp] theorem seq_flags (n : Nat) (s : State) : (seq n s).flags = s.flags := by rw [seq_eq]
@[simp] theorem seq_inte (n : Nat) (s : State) : (seq n s).inte = s.inte := by rw [seq_eq]
@[simp] theorem seq_sr (n : Nat) (s : State) : (seq n s).sr = s.sr := by rw [seq_eq]
@[simp] theorem seq_soff (n : Nat) (s : State) : (seq n s).soff = s.soff := by rw [seq_eq]
@[simp] theorem seq_cyc (n : Nat) (s : State) : (seq n s).cyc = s.cyc := by rw [seq_eq]
@[simp] theorem seq_inLatch (n : Nat) (s : State) : (seq n s).inLatch = s.inLatch := by rw [seq_eq]
@[simp] theorem seq_outLatch (n : Nat) (s : State) : (seq n s).outLatch = s.outLatch := by rw [seq_eq]
@[simp] theorem seq_mem (n : Nat) (s : State) : (seq n s).mem = s.mem := by rw [seq_eq]
@[simp] theorem seq_cfg (n : Nat) (s : State) : (seq n s).cfg = s.cfg := by rw [seq_eq]
@[simp] theorem seq_pc (n : Nat) (s : State) : (seq n s).pc = BitVec.ofNat 16 (s.pc.toNat + n) := by rw [seq_eq]
@[simp] theorem seq_diag (n : Nat) (s : State) : (seq n s).diag = s.diag ++ seqReports n s := by rw [seq_eq]
@[simp] theorem seq_halted (n : Nat) (s : State) :
    (seq n s).halted = (s.halted || decide (memSize ≤ s.pc.toNat + n)) := by rw [seq_eq]

/-- Everything `push16` does, through the two byte writes it makes in order (R180). -/
theorem push16_eq (v : Word) (s : State) :
    push16 v s =
      { memWrite (s.sp - 2).toNat (loByte v) (memWrite (s.sp - 1).toNat (hiByte v) s) with sp := s.sp - 2 } := rfl

@[simp] theorem push16_regs (v : Word) (s : State) : (push16 v s).regs = s.regs := by simp [push16]
@[simp] theorem push16_sp (v : Word) (s : State) : (push16 v s).sp = s.sp - 2 := rfl
@[simp] theorem push16_pc (v : Word) (s : State) : (push16 v s).pc = s.pc := by simp [push16]
@[simp] theorem push16_flags (v : Word) (s : State) : (push16 v s).flags = s.flags := by simp [push16]
@[simp] theorem push16_inte (v : Word) (s : State) : (push16 v s).inte = s.inte := by simp [push16]
@[simp] theorem push16_cfg (v : Word) (s : State) : (push16 v s).cfg = s.cfg := by simp [push16]

/-- What `pop16` returns and the state it leaves (R181): only SP changes. -/
theorem pop16_eq (s : State) :
    pop16 s = (joinBytes (memRead (s.sp + 1) s) (memRead s.sp s), { s with sp := s.sp + 2 }) := rfl

theorem straddleOverflow_eq (s : State) :
    straddleOverflow s = { s with halted := true, diag := s.diag ++ [.programCounterOverflow s.pc] } := rfl

theorem fatalDecodeError_eq (op : Byte) (s : State) :
    fatalDecodeError op s = { s with halted := true, diag := s.diag ++ [.fatalDecodeError op s.pc] } := rfl

/-- What an accepted interrupt leaves unchanged of the registers and flags, and where it goes (R262). -/
theorem acceptInterrupt_fields (n : BitVec 3) (s : State) :
    (acceptInterrupt n s).regs = s.regs ∧ (acceptInterrupt n s).flags = s.flags ∧
      (acceptInterrupt n s).inte = false ∧ (acceptInterrupt n s).sp = s.sp - 2 ∧
      (acceptInterrupt n s).pc = rstVector n ∧ (acceptInterrupt n s).cyc = s.cyc ∧
      (acceptInterrupt n s).cfg = s.cfg := by
  unfold acceptInterrupt restart
  split <;> simp [push16]

/-- Placing bytes keeps the canonical form. -/
theorem placeBytes_wf {m : Memory} (h : m.wf = true) (a : Nat) (bytes : List Byte) :
    (placeBytes m a bytes).wf = true := by
  induction bytes generalizing m a with
  | nil => exact h
  | cons v rest ih =>
    simp only [placeBytes]
    split
    · rename_i ha
      exact ih (Memory.wf_write v h ha) _
    · exact h

/-- After a push of which both bytes are stored, the word at SP is the word pushed (R180, R181). -/
theorem pop16_push16 (v : Word) (s : State) (h1 : protectedAddr (s.sp - 1).toNat s = false)
    (h2 : protectedAddr (s.sp - 2).toNat s = false) : (pop16 (push16 v s)).1 = v := by
  have w1 : wrapAddr (s.sp - 1).toNat = (s.sp - 1).toNat := wrapAddr_of_lt (s.sp - 1).isLt
  have w2 : wrapAddr (s.sp - 2).toNat = (s.sp - 2).toNat := wrapAddr_of_lt (s.sp - 2).isLt
  have hne : (s.sp - 1).toNat ≠ (s.sp - 2).toNat := by
    intro h
    bv_omega
  have hs : s.sp - 2 + 1 = s.sp - 1 := by bv_omega
  have hp : protectedAddr (s.sp - 2).toNat (memWrite (s.sp - 1).toNat (hiByte v) s) = false :=
    (protectedAddr_congr (by simp) _).trans h2
  have hm : (push16 v s).mem =
      writtenMem (s.sp - 2).toNat (loByte v) (memWrite (s.sp - 1).toNat (hiByte v) s) := by
    simp [push16]
  rw [pop16_eq]
  simp only [memRead, push16_sp, hs, hm, writtenMem_read, memWrite_mem, w1, w2, h1, hp, hne.symm, and_true, if_true,
    if_false, joinBytes_hiByte_loByte]

end Sys2Proof.Machine
end

