-- ==== Sys2Proof/Laws/Exec.lean ====
section
/-! SUPPORT. Once, what executing an instruction can do: it is a chain of primitive moves. A property of two states that every
primitive move has and that chains, every instruction, every step and every host call then has. -/

namespace Sys2Proof.Machine

/-- The chains of primitive moves a program can make: register, flag, SP, PC, INTE, shift device, output latch and cycle
updates, a report that halts, HALTED <- 1, and a write under the write policy. -/
inductive Moves (s : State) : State → Prop where
  | refl : Moves s s
  | regs {t : State} (r : Regs) : Moves s t → Moves s (t.setRegs r)
  | flags {t : State} (f : Flags) : Moves s t → Moves s (t.setFlags f)
  | sp {t : State} (v : Word) : Moves s t → Moves s (t.setSp v)
  | pc {t : State} (v : Word) : Moves s t → Moves s (t.setPc v)
  | inte {t : State} (b : Bool) : Moves s t → Moves s (t.setInte b)
  | sr {t : State} (v : Word) : Moves s t → Moves s (t.setSr v)
  | soff {t : State} (v : BitVec 3) : Moves s t → Moves s (t.setSoff v)
  | outLatch {t : State} (v : Vector Byte 7) : Moves s t → Moves s (t.setOutLatch v)
  | halt {t : State} : Moves s t → Moves s (t.setHalted true)
  | report {t : State} (r : Report) : Moves s t → Moves s (t.report r)
  | write {t : State} (a : Nat) (v : Byte) : Moves s t → Moves s (memWrite a v t)

variable {s t : State}

theorem Moves.setA (v : Byte) (h : Moves s t) : Moves s (t.setA v) := .regs { t.regs with a := v } h

theorem Moves.raise (r : Report) (h : Moves s t) : Moves s (raiseHalting r t) := .halt (.report r h)

theorem Moves.seq (n : Nat) (h : Moves s t) : Moves s (seq n t) := by
  unfold Machine.seq
  split
  · exact .pc _ h
  · exact .raise _ (.pc _ h)

theorem Moves.writePlace (x : Place) (v : Byte) (h : Moves s t) : Moves s (writePlace x v t) := by
  cases x
  · exact .regs _ h
  · exact .write _ _ h

theorem Moves.writePair (x : Pair) (v : Word) (h : Moves s t) : Moves s (writePair x v t) := by
  cases x
  · exact .regs _ h
  · exact .regs _ h
  · exact .regs _ h
  · exact .sp _ h

theorem Moves.write16 (a v : Word) (h : Moves s t) : Moves s (write16 a v t) := .write _ _ (.write _ _ h)

theorem Moves.push16 (v : Word) (h : Moves s t) : Moves s (push16 v t) := .sp _ (.write _ _ (.write _ _ h))

theorem Moves.pop16 (h : Moves s t) : Moves s (pop16 t).2 := .sp _ h

theorem Moves.restart (n : BitVec 3) (h : Moves s t) : Moves s (restart n t) := .pc _ (.push16 _ h)

theorem Moves.returnToPopped (h : Moves s t) : Moves s (returnToPopped t) := .pc _ (.sp _ h)

theorem Moves.portOut {p v : Byte} {u : State} (h : Moves s t) (hu : portOut p v t = some u) : Moves s u := by
  unfold Machine.portOut at hu
  split at hu <;> cases hu
  · exact .outLatch _ h
  · exact .outLatch _ h
  · exact .soff _ h
  · exact .outLatch _ h
  · exact .sr _ h
  · exact .outLatch _ h
  · exact .outLatch _ h

/-- What a meaning may answer: a next state reached by moves, or a refusal. It never faults. -/
def AnswersMoves (s : State) : Result → Prop
  | .next t => Moves s t
  | .fault _ => False
  | .refused _ => True

theorem answersMoves_next (s t : State) : AnswersMoves s (.next t) = Moves s t := rfl

theorem moveByte_moves (x : Place) (y : Source) (n : Nat) (s : State) : AnswersMoves s (moveByte x y n s) :=
  Moves.seq n (.writePlace _ _ .refl)

theorem loadPair_moves (x : Pair) (v : Word) (s : State) : AnswersMoves s (loadPair x v s) :=
  Moves.seq 3 (.writePair _ _ .refl)

theorem loadA_moves (a : Word) (n : Nat) (s : State) : AnswersMoves s (loadA a n s) := Moves.seq n (.setA _ .refl)

theorem storeA_moves (a : Word) (n : Nat) (s : State) : AnswersMoves s (storeA a n s) := Moves.seq n (.write _ _ .refl)

theorem addToA_moves (x : Source) (b : Bool) (n : Nat) (s : State) : AnswersMoves s (addToA x b n s) :=
  Moves.seq n (.flags _ (.setA _ .refl))

theorem subFromA_moves (x : Source) (b : Bool) (n : Nat) (s : State) : AnswersMoves s (subFromA x b n s) :=
  Moves.seq n (.flags _ (.setA _ .refl))

theorem increment_moves (x : Place) (s : State) : AnswersMoves s (increment x s) :=
  Moves.seq 1 (.flags _ (.writePlace _ _ .refl))

theorem decrement_moves (x : Place) (s : State) : AnswersMoves s (decrement x s) :=
  Moves.seq 1 (.flags _ (.writePlace _ _ .refl))

theorem addToHl_moves (x : Pair) (s : State) : AnswersMoves s (addToHl x s) :=
  Moves.seq 1 (.flags _ (.writePair _ _ .refl))

theorem decimalAdjust_moves (s : State) : AnswersMoves s (decimalAdjust s) := Moves.seq 1 (.flags _ (.setA _ .refl))

theorem andA_moves (x : Source) (n : Nat) (s : State) : AnswersMoves s (andA x n s) :=
  Moves.seq n (.flags _ (.setA _ .refl))

theorem xorA_moves (x : Source) (n : Nat) (s : State) : AnswersMoves s (xorA x n s) :=
  Moves.seq n (.flags _ (.setA _ .refl))

theorem orA_moves (x : Source) (n : Nat) (s : State) : AnswersMoves s (orA x n s) :=
  Moves.seq n (.flags _ (.setA _ .refl))

theorem compareA_moves (x : Source) (n : Nat) (s : State) : AnswersMoves s (compareA x n s) :=
  Moves.seq n (.flags _ .refl)

theorem rotate_moves (a : Byte) (b : Bool) (s : State) : AnswersMoves s (rotate a b s) :=
  Moves.seq 1 (.flags _ (.setA _ .refl))

theorem popPair_moves (x : Pair) (s : State) : AnswersMoves s (popPair x s) :=
  Moves.seq 1 (.writePair _ _ (.pop16 .refl))

theorem popFlagsAndA_moves (s : State) : AnswersMoves s (popFlagsAndA s) :=
  Moves.seq 1 (.setA _ (.flags _ (.pop16 .refl)))

theorem illegal_moves (op : Byte) (s : State) : AnswersMoves s (illegal op s) := Moves.raise _ .refl

theorem execXthl_moves (s : State) : AnswersMoves s (execXthl s) :=
  Moves.seq 1 (.writePair _ _ (.write16 _ _ .refl))

theorem execXchg_moves (s : State) : AnswersMoves s (execXchg s) :=
  Moves.seq 1 (.writePair _ _ (.writePair _ _ .refl))

theorem conditionalJump_moves (b : Bool) (a : Word) (s : State) : AnswersMoves s (conditionalJump b a s) := by
  cases b
  · exact Moves.seq 3 .refl
  · exact Moves.pc a .refl

theorem conditionalCall_moves (b : Bool) (a : Word) (s : State) : AnswersMoves s (conditionalCall b a s) := by
  cases b
  · exact Moves.seq 3 .refl
  · exact Moves.pc a (.push16 _ .refl)

theorem conditionalReturn_moves (b : Bool) (s : State) : AnswersMoves s (conditionalReturn b s) := by
  cases b
  · exact Moves.seq 1 .refl
  · exact Moves.returnToPopped .refl

theorem execInp_moves (p : Byte) (s : State) : AnswersMoves s (execInp p s) := by
  unfold execInp
  split
  · exact Moves.seq 2 (.setA _ .refl)
  · trivial

theorem execOut_moves (p : Byte) (s : State) : AnswersMoves s (execOut p s) := by
  unfold execOut
  split
  · rename_i t ht
    exact Moves.seq 2 (Moves.portOut .refl ht)
  · trivial

/-- Every instruction answers with a chain of moves: its meaning, unfolded to the shared operations, is one. -/
theorem exec_moves (i : Instr) (s : State) : AnswersMoves s (exec i s) := by
  cases i <;> simp only [exec, moveByte_moves, loadPair_moves, loadA_moves, storeA_moves, addToA_moves, subFromA_moves,
    increment_moves, decrement_moves, addToHl_moves, decimalAdjust_moves, andA_moves, xorA_moves, orA_moves,
    compareA_moves, rotate_moves, popPair_moves, popFlagsAndA_moves, illegal_moves, execXthl_moves, execXchg_moves,
    conditionalJump_moves, conditionalCall_moves, conditionalReturn_moves, execInp_moves, execOut_moves,
    answersMoves_next, Moves.refl, Moves.sp, Moves.pc, Moves.inte, Moves.halt, Moves.setA, Moves.seq, Moves.flags,
    Moves.writePair, Moves.write16, Moves.push16, Moves.restart,
    execNop, execLxiB, execStaxB, execInxB, execInrB, execDcrB, execMviB, execRlc, execIllegal08, execDadB,
    execLdaxB, execDcxB, execInrC, execDcrC, execMviC, execRrc, execIllegal10, execLxiD, execStaxD, execInxD,
    execInrD, execDcrD, execMviD, execRal, execIllegal18, execDadD, execLdaxD, execDcxD, execInrE, execDcrE,
    execMviE, execRar, execIllegal20, execLxiH, execShld, execInxH, execInrH, execDcrH, execMviH, execDaa,
    execIllegal28, execDadH, execLhld, execDcxH, execInrL, execDcrL, execMviL, execCma, execIllegal30,
    execLxiSp, execSta, execInxSp, execInrM, execDcrM, execMviM, execStc, execIllegal38, execDadSp, execLda,
    execDcxSp, execInrA, execDcrA, execMviA, execCmc, execMovBB, execMovBC, execMovBD, execMovBE, execMovBH,
    execMovBL, execMovBM, execMovBA, execMovCB, execMovCC, execMovCD, execMovCE, execMovCH, execMovCL,
    execMovCM, execMovCA, execMovDB, execMovDC, execMovDD, execMovDE, execMovDH, execMovDL, execMovDM,
    execMovDA, execMovEB, execMovEC, execMovED, execMovEE, execMovEH, execMovEL, execMovEM, execMovEA,
    execMovHB, execMovHC, execMovHD, execMovHE, execMovHH, execMovHL, execMovHM, execMovHA, execMovLB,
    execMovLC, execMovLD, execMovLE, execMovLH, execMovLL, execMovLM, execMovLA, execMovMB, execMovMC,
    execMovMD, execMovME, execMovMH, execMovML, execHlt, execMovMA, execMovAB, execMovAC, execMovAD, execMovAE,
    execMovAH, execMovAL, execMovAM, execMovAA, execAddB, execAddC, execAddD, execAddE, execAddH, execAddL,
    execAddM, execAddA, execAdcB, execAdcC, execAdcD, execAdcE, execAdcH, execAdcL, execAdcM, execAdcA,
    execSubB, execSubC, execSubD, execSubE, execSubH, execSubL, execSubM, execSubA, execSbbB, execSbbC,
    execSbbD, execSbbE, execSbbH, execSbbL, execSbbM, execSbbA, execAnaB, execAnaC, execAnaD, execAnaE,
    execAnaH, execAnaL, execAnaM, execAnaA, execXraB, execXraC, execXraD, execXraE, execXraH, execXraL,
    execXraM, execXraA, execOraB, execOraC, execOraD, execOraE, execOraH, execOraL, execOraM, execOraA,
    execCmpB, execCmpC, execCmpD, execCmpE, execCmpH, execCmpL, execCmpM, execCmpA, execRnz, execPopB, execJnz,
    execJmp, execCnz, execPushB, execAdi, execRst0, execRz, execRet, execJz, execIllegalcb, execCz, execCall,
    execAci, execRst1, execRnc, execPopD, execJnc, execCnc, execPushD, execSui, execRst2, execRc, execIllegald9,
    execJc, execCc, execIllegaldd, execSbi, execRst3, execRpo, execPopH, execJpo, execCpo, execPushH,
    execAni, execRst4, execRpe, execPchl, execJpe, execCpe, execIllegaled, execXri, execRst5, execRp,
    execPopPsw, execJp, execDi, execCp, execPushPsw, execOri, execRst6, execRm, execSphl, execJm, execEi,
    execCm, execIllegalfd, execCpi, execRst7]

theorem exec_next_moves {i : Instr} (h : exec i s = .next t) : Moves s t := by
  have := exec_moves i s
  rwa [h] at this

/-- No instruction faults: the only fault of the machine is a step of a halted state. -/
theorem exec_no_fault (i : Instr) (s : State) (f : Fault) : exec i s ≠ .fault f := by
  intro h
  have := exec_moves i s
  rw [h] at this
  exact this

/-- Everything a step with a next state can have done: the straddling overflow, or an instruction and its accounting. -/
theorem step_cases (h : step s = .next t) :
    s.halted = false ∧
      ((∃ e, fetchInstr s = .error e ∧ t = straddleOverflow s) ∨
        ∃ i rest u, fetchInstr s = .ok (i, rest) ∧ exec i s = .next u ∧ t = account i u) := by
  unfold step at h
  split at h
  · exact absurd h (by simp)
  · rename_i hh
    refine ⟨by simpa using hh, ?_⟩
    split at h
    · rename_i e he
      injection h with h
      exact .inl ⟨e, he, h.symm⟩
    · rename_i i rest hi
      right
      cases hx : exec i s with
      | next u =>
        rw [hx] at h
        injection h with h
        exact ⟨i, rest, u, hi, hx, h.symm⟩
      | fault r => rw [hx] at h; exact absurd h (by simp [accountResult])
      | refused r => rw [hx] at h; exact absurd h (by simp [accountResult])

/-- A step is a chain of moves and then a change of CYC alone. -/
theorem step_moves (h : step s = .next t) : ∃ u n, Moves s u ∧ t = u.setCyc n := by
  obtain ⟨-, ⟨e, -, rfl⟩ | ⟨i, rest, u, -, hx, rfl⟩⟩ := step_cases h
  · exact ⟨_, s.cyc, .raise _ .refl, rfl⟩
  · refine ⟨u, (account i u).cyc, exec_next_moves hx, ?_⟩
    unfold account
    split <;> rfl

theorem Moves.wf (h : Moves s t) (hs : s.mem.wf = true) : t.mem.wf = true := by
  induction h with
  | refl => exact hs
  | write a v _ ih => simpa using writtenMem_wf ih
  | _ => assumption

theorem Moves.cfg (h : Moves s t) : t.cfg = s.cfg := by
  induction h with
  | refl => rfl
  | write a v _ ih => simpa using ih
  | _ => assumption

theorem Moves.rom (h : Moves s t) (hm : s.cfg.mode = .arcade) {a : Nat} (ha : a < romSize) :
    t.mem.read a = s.mem.read a := by
  induction h with
  | refl => rfl
  | write b v hu ih => rw [memWrite_mem, writtenMem_rom (by rw [hu.cfg]; exact hm) ha]; exact ih
  | _ => assumption

theorem Moves.diag (h : Moves s t) : s.diag <+: t.diag := by
  induction h with
  | refl => exact List.prefix_refl _
  | report r _ ih => exact List.IsPrefix.trans ih (List.prefix_append _ _)
  | write a v _ ih => rw [memWrite_diag]; exact List.IsPrefix.trans ih (List.prefix_append _ _)
  | _ => assumption

theorem Moves.halted (h : Moves s t) (hs : s.halted = true) : t.halted = true := by
  induction h with
  | refl => exact hs
  | halt => rfl
  | write a v _ ih => simp [ih]
  | _ => assumption

theorem Moves.inLatch (h : Moves s t) : t.inLatch = s.inLatch := by
  induction h with
  | refl => rfl
  | write a v _ ih => simpa using ih
  | _ => assumption

theorem Moves.cyc (h : Moves s t) : t.cyc = s.cyc := by
  induction h with
  | refl => rfl
  | write a v _ ih => simpa using ih
  | _ => assumption

end Sys2Proof.Machine
end

