-- ==== Sys2Proof/Laws/Flags.lean ====
section
/-! SUPPORT. The flag computations on numbers, once: ZSP, the ALU primitives, the shift window. -/

namespace Sys2Proof.Machine

theorem lowNibble_toNat (a : Byte) : (a &&& 0x0F).toNat = a.toNat % 16 := by
  rw [BitVec.toNat_and]
  exact Nat.and_two_pow_sub_one_eq_mod _ 4

theorem lowNibble_not_toNat (a : Byte) : (~~~a &&& 0x0F).toNat = 15 - a.toNat % 16 := by
  rw [lowNibble_toNat, BitVec.toNat_not]
  have := a.isLt
  omega

theorem signBit_eq (v : Byte) : v.getLsbD 7 = decide (128 ≤ v.toNat) := by
  revert v
  decide

theorem beq_zero_eq (v : Byte) : (v == 0) = decide (v.toNat = 0) := by
  revert v
  decide

/-- Everything `zsp` does: S and Z from the number, P from the count of ones, AC and CY kept (R30). -/
theorem zsp_eq (v : Byte) (f : Flags) :
    zsp v f = ⟨decide (128 ≤ v.toNat), decide (v.toNat = 0), f.ac, popcount v % 2 == 0, f.cy⟩ := by
  rw [← signBit_eq, ← beq_zero_eq]
  rfl

/-- `add8` on numbers (R120). -/
theorem add8_eq (a b : Byte) (c : Bool) :
    add8 a b c =
      ⟨BitVec.ofNat 8 (a.toNat + b.toNat + c.toNat), decide (255 < a.toNat + b.toNat + c.toNat),
        decide (15 < a.toNat % 16 + b.toNat % 16 + c.toNat)⟩ := by
  unfold add8
  rw [lowNibble_toNat, lowNibble_toNat]

/-- `sub8` on numbers, AC in the comparison form of R121. -/
theorem sub8_eq (a b : Byte) (c : Bool) :
    sub8 a b c =
      ⟨BitVec.ofNat 8 (a.toNat + 256 - b.toNat - c.toNat), decide (a.toNat < b.toNat + c.toNat),
        decide (b.toNat % 16 + c.toNat ≤ a.toNat % 16)⟩ := by
  have ha := a.isLt
  have hb := b.isLt
  have hc := Bool.toNat_lt c
  unfold sub8
  rw [lowNibble_toNat, lowNibble_not_toNat]
  congr 1
  · apply BitVec.eq_of_toNat_eq
    simp
    omega
  · simp only [decide_eq_decide]
    omega
  · simp only [decide_eq_decide]
    omega

/-- The shift window as a quotient (R70). -/
theorem shiftRead_eq (s : State) :
    shiftRead s =
      match s.cfg.shiftReadMode with
      | .low => BitVec.ofNat 8 (s.sr.toNat / 2 ^ (8 - s.soff.toNat))
      | .literalHigh => BitVec.ofNat 8 (s.sr.toNat / 2 ^ (16 - s.soff.toNat)) := by
  have h : ∀ (w : Word) (k : Nat), (w >>> k).setWidth 8 = BitVec.ofNat 8 (w.toNat / 2 ^ k) := by
    intro w k
    apply BitVec.eq_of_toNat_eq
    simp [Nat.shiftRight_eq_div_pow]
  unfold shiftRead
  cases s.cfg.shiftReadMode
  · exact h _ _
  · exact h _ _

end Sys2Proof.Machine
end

