-- ==== Sys2Proof/Tests/Slice0.lean ====
section
/-! SUPPORT. The model's own tests: every constructor decoded from a word written out from the spec's encoding, the WellFormed
smoke test, single steps with the expected values of spec/95_test_vectors.md, and, for each obligation with hypotheses, a
concrete state and operands that meet them. -/

namespace Sys2Proof.Tests

open Sys2Proof Sys2Proof.Machine Sys2Proof.Claims

/-- The state right after reset in test mode, the start state of the vectors of spec/95. -/
def tst : State := State.initial { Config.default with mode := .test }

/-- The same in arcade mode. -/
def arc : State := { tst with cfg := { tst.cfg with mode := .arcade } }

/-- A state with `bytes` at PC. -/
def withBytes (bytes : List Byte) (s : State) : State := { s with mem := placeBytes s.mem s.pc.toNat bytes }

/-- The next state of an answer, if there is one. -/
def nextOf : Result → Option State
  | .next t => some t
  | .fault _ => none
  | .refused _ => none

/-- One step with `bytes` at PC. -/
def ran (bytes : List Byte) (s : State) : Option State := nextOf (step (withBytes bytes s))

/-- The instruction the decoder reads. -/
def decoded (bytes : List Byte) : Option Instr :=
  match decode bytes with
  | .ok (i, _) => some i
  | .error _ => none

/-! ### Decoding: one word per constructor -/

/-- The opcodes 0x00 to 0x0F, from the "Encoding:" lines of the family files. -/
theorem test_decode_00_0F :
  [[0b00000000], [0b00000001, 0x34, 0x12], [0b00000010], [0b00000011],
   [0b00000100], [0b00000101], [0b00000110, 0xA5], [0b00000111],
   [0b00001000], [0b00001001], [0b00001010], [0b00001011],
   [0b00001100], [0b00001101], [0b00001110, 0xA5], [0b00001111]].map decoded =
  [some .nop, some (.lxiB 0x1234), some .staxB, some .inxB,
   some .inrB, some .dcrB, some (.mviB 0xA5), some .rlc,
   some .illegal08, some .dadB, some .ldaxB, some .dcxB,
   some .inrC, some .dcrC, some (.mviC 0xA5), some .rrc] := by
  decide

/-- The opcodes 0x10 to 0x1F, from the "Encoding:" lines of the family files. -/
theorem test_decode_10_1F :
  [[0b00010000], [0b00010001, 0x34, 0x12], [0b00010010], [0b00010011],
   [0b00010100], [0b00010101], [0b00010110, 0xA5], [0b00010111],
   [0b00011000], [0b00011001], [0b00011010], [0b00011011],
   [0b00011100], [0b00011101], [0b00011110, 0xA5], [0b00011111]].map decoded =
  [some .illegal10, some (.lxiD 0x1234), some .staxD, some .inxD,
   some .inrD, some .dcrD, some (.mviD 0xA5), some .ral,
   some .illegal18, some .dadD, some .ldaxD, some .dcxD,
   some .inrE, some .dcrE, some (.mviE 0xA5), some .rar] := by
  decide

/-- The opcodes 0x20 to 0x2F, from the "Encoding:" lines of the family files. -/
theorem test_decode_20_2F :
  [[0b00100000], [0b00100001, 0x34, 0x12], [0b00100010, 0x34, 0x12], [0b00100011],
   [0b00100100], [0b00100101], [0b00100110, 0xA5], [0b00100111],
   [0b00101000], [0b00101001], [0b00101010, 0x34, 0x12], [0b00101011],
   [0b00101100], [0b00101101], [0b00101110, 0xA5], [0b00101111]].map decoded =
  [some .illegal20, some (.lxiH 0x1234), some (.shld 0x1234), some .inxH,
   some .inrH, some .dcrH, some (.mviH 0xA5), some .daa,
   some .illegal28, some .dadH, some (.lhld 0x1234), some .dcxH,
   some .inrL, some .dcrL, some (.mviL 0xA5), some .cma] := by
  decide

/-- The opcodes 0x30 to 0x3F, from the "Encoding:" lines of the family files. -/
theorem test_decode_30_3F :
  [[0b00110000], [0b00110001, 0x34, 0x12], [0b00110010, 0x34, 0x12], [0b00110011],
   [0b00110100], [0b00110101], [0b00110110, 0xA5], [0b00110111],
   [0b00111000], [0b00111001], [0b00111010, 0x34, 0x12], [0b00111011],
   [0b00111100], [0b00111101], [0b00111110, 0xA5], [0b00111111]].map decoded =
  [some .illegal30, some (.lxiSp 0x1234), some (.sta 0x1234), some .inxSp,
   some .inrM, some .dcrM, some (.mviM 0xA5), some .stc,
   some .illegal38, some .dadSp, some (.lda 0x1234), some .dcxSp,
   some .inrA, some .dcrA, some (.mviA 0xA5), some .cmc] := by
  decide

/-- The opcodes 0x40 to 0x4F, from the "Encoding:" lines of the family files. -/
theorem test_decode_40_4F :
  [[0b01000000], [0b01000001], [0b01000010], [0b01000011],
   [0b01000100], [0b01000101], [0b01000110], [0b01000111],
   [0b01001000], [0b01001001], [0b01001010], [0b01001011],
   [0b01001100], [0b01001101], [0b01001110], [0b01001111]].map decoded =
  [some .movBB, some .movBC, some .movBD, some .movBE,
   some .movBH, some .movBL, some .movBM, some .movBA,
   some .movCB, some .movCC, some .movCD, some .movCE,
   some .movCH, some .movCL, some .movCM, some .movCA] := by
  decide

/-- The opcodes 0x50 to 0x5F, from the "Encoding:" lines of the family files. -/
theorem test_decode_50_5F :
  [[0b01010000], [0b01010001], [0b01010010], [0b01010011],
   [0b01010100], [0b01010101], [0b01010110], [0b01010111],
   [0b01011000], [0b01011001], [0b01011010], [0b01011011],
   [0b01011100], [0b01011101], [0b01011110], [0b01011111]].map decoded =
  [some .movDB, some .movDC, some .movDD, some .movDE,
   some .movDH, some .movDL, some .movDM, some .movDA,
   some .movEB, some .movEC, some .movED, some .movEE,
   some .movEH, some .movEL, some .movEM, some .movEA] := by
  decide

/-- The opcodes 0x60 to 0x6F, from the "Encoding:" lines of the family files. -/
theorem test_decode_60_6F :
  [[0b01100000], [0b01100001], [0b01100010], [0b01100011],
   [0b01100100], [0b01100101], [0b01100110], [0b01100111],
   [0b01101000], [0b01101001], [0b01101010], [0b01101011],
   [0b01101100], [0b01101101], [0b01101110], [0b01101111]].map decoded =
  [some .movHB, some .movHC, some .movHD, some .movHE,
   some .movHH, some .movHL, some .movHM, some .movHA,
   some .movLB, some .movLC, some .movLD, some .movLE,
   some .movLH, some .movLL, some .movLM, some .movLA] := by
  decide

/-- The opcodes 0x70 to 0x7F, from the "Encoding:" lines of the family files. -/
theorem test_decode_70_7F :
  [[0b01110000], [0b01110001], [0b01110010], [0b01110011],
   [0b01110100], [0b01110101], [0b01110110], [0b01110111],
   [0b01111000], [0b01111001], [0b01111010], [0b01111011],
   [0b01111100], [0b01111101], [0b01111110], [0b01111111]].map decoded =
  [some .movMB, some .movMC, some .movMD, some .movME,
   some .movMH, some .movML, some .hlt, some .movMA,
   some .movAB, some .movAC, some .movAD, some .movAE,
   some .movAH, some .movAL, some .movAM, some .movAA] := by
  decide

/-- The opcodes 0x80 to 0x8F, from the "Encoding:" lines of the family files. -/
theorem test_decode_80_8F :
  [[0b10000000], [0b10000001], [0b10000010], [0b10000011],
   [0b10000100], [0b10000101], [0b10000110], [0b10000111],
   [0b10001000], [0b10001001], [0b10001010], [0b10001011],
   [0b10001100], [0b10001101], [0b10001110], [0b10001111]].map decoded =
  [some .addB, some .addC, some .addD, some .addE,
   some .addH, some .addL, some .addM, some .addA,
   some .adcB, some .adcC, some .adcD, some .adcE,
   some .adcH, some .adcL, some .adcM, some .adcA] := by
  decide

/-- The opcodes 0x90 to 0x9F, from the "Encoding:" lines of the family files. -/
theorem test_decode_90_9F :
  [[0b10010000], [0b10010001], [0b10010010], [0b10010011],
   [0b10010100], [0b10010101], [0b10010110], [0b10010111],
   [0b10011000], [0b10011001], [0b10011010], [0b10011011],
   [0b10011100], [0b10011101], [0b10011110], [0b10011111]].map decoded =
  [some .subB, some .subC, some .subD, some .subE,
   some .subH, some .subL, some .subM, some .subA,
   some .sbbB, some .sbbC, some .sbbD, some .sbbE,
   some .sbbH, some .sbbL, some .sbbM, some .sbbA] := by
  decide

/-- The opcodes 0xA0 to 0xAF, from the "Encoding:" lines of the family files. -/
theorem test_decode_A0_AF :
  [[0b10100000], [0b10100001], [0b10100010], [0b10100011],
   [0b10100100], [0b10100101], [0b10100110], [0b10100111],
   [0b10101000], [0b10101001], [0b10101010], [0b10101011],
   [0b10101100], [0b10101101], [0b10101110], [0b10101111]].map decoded =
  [some .anaB, some .anaC, some .anaD, some .anaE,
   some .anaH, some .anaL, some .anaM, some .anaA,
   some .xraB, some .xraC, some .xraD, some .xraE,
   some .xraH, some .xraL, some .xraM, some .xraA] := by
  decide

/-- The opcodes 0xB0 to 0xBF, from the "Encoding:" lines of the family files. -/
theorem test_decode_B0_BF :
  [[0b10110000], [0b10110001], [0b10110010], [0b10110011],
   [0b10110100], [0b10110101], [0b10110110], [0b10110111],
   [0b10111000], [0b10111001], [0b10111010], [0b10111011],
   [0b10111100], [0b10111101], [0b10111110], [0b10111111]].map decoded =
  [some .oraB, some .oraC, some .oraD, some .oraE,
   some .oraH, some .oraL, some .oraM, some .oraA,
   some .cmpB, some .cmpC, some .cmpD, some .cmpE,
   some .cmpH, some .cmpL, some .cmpM, some .cmpA] := by
  decide

/-- The opcodes 0xC0 to 0xCF, from the "Encoding:" lines of the family files. -/
theorem test_decode_C0_CF :
  [[0b11000000], [0b11000001], [0b11000010, 0x34, 0x12], [0b11000011, 0x34, 0x12],
   [0b11000100, 0x34, 0x12], [0b11000101], [0b11000110, 0xA5], [0b11000111],
   [0b11001000], [0b11001001], [0b11001010, 0x34, 0x12], [0b11001011],
   [0b11001100, 0x34, 0x12], [0b11001101, 0x34, 0x12], [0b11001110, 0xA5], [0b11001111]].map decoded =
  [some .rnz, some .popB, some (.jnz 0x1234), some (.jmp 0x1234),
   some (.cnz 0x1234), some .pushB, some (.adi 0xA5), some .rst0,
   some .rz, some .ret, some (.jz 0x1234), some .illegalcb,
   some (.cz 0x1234), some (.call 0x1234), some (.aci 0xA5), some .rst1] := by
  decide

/-- The opcodes 0xD0 to 0xDF, from the "Encoding:" lines of the family files. -/
theorem test_decode_D0_DF :
  [[0b11010000], [0b11010001], [0b11010010, 0x34, 0x12], [0b11010011, 0xA5],
   [0b11010100, 0x34, 0x12], [0b11010101], [0b11010110, 0xA5], [0b11010111],
   [0b11011000], [0b11011001], [0b11011010, 0x34, 0x12], [0b11011011, 0xA5],
   [0b11011100, 0x34, 0x12], [0b11011101], [0b11011110, 0xA5], [0b11011111]].map decoded =
  [some .rnc, some .popD, some (.jnc 0x1234), some (.out 0xA5),
   some (.cnc 0x1234), some .pushD, some (.sui 0xA5), some .rst2,
   some .rc, some .illegald9, some (.jc 0x1234), some (.inp 0xA5),
   some (.cc 0x1234), some .illegaldd, some (.sbi 0xA5), some .rst3] := by
  decide

/-- The opcodes 0xE0 to 0xEF, from the "Encoding:" lines of the family files. -/
theorem test_decode_E0_EF :
  [[0b11100000], [0b11100001], [0b11100010, 0x34, 0x12], [0b11100011],
   [0b11100100, 0x34, 0x12], [0b11100101], [0b11100110, 0xA5], [0b11100111],
   [0b11101000], [0b11101001], [0b11101010, 0x34, 0x12], [0b11101011],
   [0b11101100, 0x34, 0x12], [0b11101101], [0b11101110, 0xA5], [0b11101111]].map decoded =
  [some .rpo, some .popH, some (.jpo 0x1234), some .xthl,
   some (.cpo 0x1234), some .pushH, some (.ani 0xA5), some .rst4,
   some .rpe, some .pchl, some (.jpe 0x1234), some .xchg,
   some (.cpe 0x1234), some .illegaled, some (.xri 0xA5), some .rst5] := by
  decide

/-- The opcodes 0xF0 to 0xFF, from the "Encoding:" lines of the family files. -/
theorem test_decode_F0_FF :
  [[0b11110000], [0b11110001], [0b11110010, 0x34, 0x12], [0b11110011],
   [0b11110100, 0x34, 0x12], [0b11110101], [0b11110110, 0xA5], [0b11110111],
   [0b11111000], [0b11111001], [0b11111010, 0x34, 0x12], [0b11111011],
   [0b11111100, 0x34, 0x12], [0b11111101], [0b11111110, 0xA5], [0b11111111]].map decoded =
  [some .rp, some .popPsw, some (.jp 0x1234), some .di,
   some (.cp 0x1234), some .pushPsw, some (.ori 0xA5), some .rst6,
   some .rm, some .sphl, some (.jm 0x1234), some .ei,
   some (.cm 0x1234), some .illegalfd, some (.cpi 0xA5), some .rst7] := by
  decide

/-! ### WellFormed: the one check, at each length (30_encoding.md R87) -/

theorem test_two_bytes_do_not_fit_at_FFFF : (Instr.mviA 0x42).wellFormedAt 0xFFFF = false := by decide

theorem test_three_bytes_do_not_fit_at_FFFE : (Instr.lxiH 0x1234).wellFormedAt 0xFFFE = false := by decide

theorem test_three_bytes_do_not_fit_at_FFFF : (Instr.jmp 0x0000).wellFormedAt 0xFFFF = false := by decide

theorem test_what_ends_at_FFFF_fits :
    (Instr.nop.wellFormedAt 0xFFFF, (Instr.mviA 0x42).wellFormedAt 0xFFFE, (Instr.jmp 0x0100).wellFormedAt 0xFFFD) =
      (true, true, true) := by
  decide

/-! ### The host's table words, and the placed instruction as the first step after reset -/

theorem test_table_word_counts_from_the_first_byte : decodeTableWord 24 0x123421 = some (.lxiH 0x1234) := by decide

theorem test_table_word_without_operand_bits : decodeTableWord 8 0x21 = some (.lxiH 0x0000) := by decide

theorem test_placed_word_runs_first :
    (nextOf (step (State.reset.withFetchWord 24 0x123421))).map (fun t => (t.regs.h, t.regs.l, t.pc)) =
      some (0x12, 0x34, 0x0003) := by
  decide

/-! ### Loads (LD1, LD2, LD6 of spec/95_test_vectors.md, R300, R301) -/

theorem test_load_arcade_too_large : load Config.default (List.replicate 8193 0xAA) = .romTooLarge := by
  have h : imageCapacity Config.default.mode < (List.replicate 8193 (0xAA : Byte)).length := by
    rw [List.length_replicate]
    decide
  exact if_pos h

theorem test_load_arcade_empty : load Config.default [] = .success State.reset := by rfl

theorem test_load_test_mode : load tst.cfg [0xAA] = .success { tst with mem := [(0x0100, 0xAA)] } := by rfl

/-! ### Single steps: expected values from spec/95_test_vectors.md -/

/-- DT1 of spec/95_test_vectors.md (R100). -/
theorem test_mov_register :
    (ran [0x48]
        { tst with regs := { tst.regs with b := 0x5A } }).map
      (fun t => (t.regs.c, t.pc, t.flags)) =
      some (0x5A, 0x0101, ⟨false, false, false, false, false⟩) := by
  decide

/-- DT3 of spec/95_test_vectors.md (R101). -/
theorem test_mov_from_memory :
    (ran [0x7E]
        { tst with regs := { tst.regs with h := 0x24, l := 0x00 }, mem := [(0x2400, 0x77)] }).map
      (fun t => (t.regs.a, t.pc)) =
      some (0x77, 0x0101) := by
  decide

/-- DT5 of spec/95_test_vectors.md (R102, R55). -/
theorem test_mov_to_memory_protected :
    (ran [0x77]
        { arc with regs := { tst.regs with h := 0x00, l := 0x10, a := 0x3C }, pc := 0x2100 }).map
      (fun t => (t.mem.read 0x0010, t.diag, t.pc)) =
      some (0x00, [.illegalWrite 0x0010 0x3C 0x2100], 0x2101) := by
  decide

/-- DT7 of spec/95_test_vectors.md (R103). -/
theorem test_mvi_writes_no_flag :
    (ran [0x3E, 0x80]
        { tst with flags := { tst.flags with s := true, z := true, cy := true } }).map
      (fun t => (t.regs.a, t.flags, t.pc)) =
      some (0x80, ⟨true, true, false, false, true⟩, 0x0102) := by
  decide

/-- DT8 of spec/95_test_vectors.md (R104). -/
theorem test_mvi_memory :
    (ran [0x36, 0xAA]
        { tst with regs := { tst.regs with h := 0x21, l := 0x00 } }).map
      (fun t => (t.mem.read 0x2100, t.pc)) =
      some (0xAA, 0x0102) := by
  decide

/-- DT9 of spec/95_test_vectors.md (R105). -/
theorem test_lxi_sp :
    (ran [0x31, 0x00, 0x24] tst).map
      (fun t => (t.sp, t.pc)) =
      some (0x2400, 0x0103) := by
  decide

/-- E9.1 of spec/95_test_vectors.md, a check of the source (R105, R85). -/
theorem test_lxi_h :
    (ran [0x21, 0x34, 0x12]
        { tst with pc := 0x0100 }).map
      (fun t => (t.regs.h, t.regs.l, t.pc, t.flags)) =
      some (0x12, 0x34, 0x0103, ⟨false, false, false, false, false⟩) := by
  decide

/-- DT11 of spec/95_test_vectors.md (R106). -/
theorem test_lda :
    (ran [0x3A, 0x50, 0x20]
        { tst with mem := [(0x2050, 0x09)] }).map
      (fun t => (t.regs.a, t.pc)) =
      some (0x09, 0x0103) := by
  decide

/-- DT12 of spec/95_test_vectors.md (R107). -/
theorem test_sta :
    (ran [0x32, 0x00, 0x24]
        { tst with regs := { tst.regs with a := 0x42 } }).map
      (fun t => (t.mem.read 0x2400, t.pc)) =
      some (0x42, 0x0103) := by
  decide

/-- DT13 of spec/95_test_vectors.md (R108). -/
theorem test_ldax :
    (ran [0x1A]
        { tst with regs := { tst.regs with d := 0x30, e := 0x00 }, mem := [(0x3000, 0x11)] }).map
      (fun t => t.regs.a) =
      some 0x11 := by
  decide

/-- DT14 of spec/95_test_vectors.md (R109). -/
theorem test_stax :
    (ran [0x02]
        { tst with regs := { tst.regs with b := 0x20, c := 0x02, a := 0xFF } }).map
      (fun t => t.mem.read 0x2002) =
      some 0xFF := by
  decide

/-- DT16 of spec/95_test_vectors.md (R57). -/
theorem test_lhld_wraps :
    (ran [0x2A, 0xFF, 0xFF]
        { tst with mem := [(0x0000, 0x12), (0xFFFF, 0x34)] }).map
      (fun t => joinBytes t.regs.h t.regs.l) =
      some 0x1234 := by
  decide

/-- DT18 of spec/95_test_vectors.md (R54). -/
theorem test_shld_folds :
    (ran [0x22, 0xFF, 0xFF]
        { tst with regs := { tst.regs with h := 0xAB, l := 0xCD } }).map
      (fun t => (t.mem.read 0xFFFF, t.mem.read 0x2000, t.mem.read 0x0000)) =
      some (0xCD, 0xAB, 0x00) := by
  decide

/-- DT19 of spec/95_test_vectors.md (R57). -/
theorem test_shld_does_not_fold :
    (ran [0x22, 0xFF, 0xFF]
        { tst with regs := { tst.regs with h := 0xAB, l := 0xCD }, cfg := { tst.cfg with wideWriteFold := false } }).map
      (fun t => (t.mem.read 0xFFFF, t.mem.read 0x2000, t.mem.read 0x0000)) =
      some (0xCD, 0x00, 0xAB) := by
  decide

/-- DT20 of spec/95_test_vectors.md (R112). -/
theorem test_xchg :
    (ran [0xEB]
        { tst with regs := { tst.regs with d := 0x12, e := 0x34, h := 0xAB, l := 0xCD } }).map
      (fun t => (joinBytes t.regs.d t.regs.e, joinBytes t.regs.h t.regs.l)) =
      some (0xABCD, 0x1234) := by
  decide

/-- DT21 of spec/95_test_vectors.md (R113). -/
theorem test_xthl :
    (ran [0xE3]
        { tst with regs := { tst.regs with h := 0xBE, l := 0xEF }, sp := 0x23FE, mem := [(0x23FE, 0x34), (0x23FF, 0x12)] }).map
      (fun t => (joinBytes t.regs.h t.regs.l, t.mem.read 0x23FE, t.mem.read 0x23FF, t.sp)) =
      some (0x1234, 0xEF, 0xBE, 0x23FE) := by
  decide

/-- DT22 of spec/95_test_vectors.md (R114). -/
theorem test_sphl :
    (ran [0xF9]
        { tst with regs := { tst.regs with h := 0x24, l := 0x00 } }).map
      (fun t => (t.sp, t.pc)) =
      some (0x2400, 0x0101) := by
  decide

/-- DT23 of spec/95_test_vectors.md (R115). -/
theorem test_pchl :
    (ran [0xE9]
        { tst with regs := { tst.regs with h := 0x01, l := 0x23 } }).map
      (fun t => t.pc) =
      some 0x0123 := by
  decide

/-- E1.1 of spec/95_test_vectors.md, a check of the source (R126). -/
theorem test_add_carries :
    (ran [0x80]
        { tst with regs := { tst.regs with a := 0xFF, b := 0x01 } }).map
      (fun t => (t.regs.a, t.flags)) =
      some (0x00, ⟨false, true, true, true, true⟩) := by
  decide

/-- AR4 of spec/95_test_vectors.md (R127). -/
theorem test_add_memory :
    (ran [0x86]
        { tst with regs := { tst.regs with a := 0x0F, h := 0x20, l := 0x00 }, mem := [(0x2000, 0x01)] }).map
      (fun t => (t.regs.a, t.flags)) =
      some (0x10, ⟨false, false, true, false, false⟩) := by
  decide

/-- E1.6 of spec/95_test_vectors.md, a check of the source (R128). -/
theorem test_adc :
    (ran [0x88]
        { tst with regs := { tst.regs with a := 0xFE, b := 0x01 }, flags := { tst.flags with cy := true } }).map
      (fun t => (t.regs.a, t.flags)) =
      some (0x00, ⟨false, true, true, true, true⟩) := by
  decide

/-- E2.2 of spec/95_test_vectors.md, a check of the source (R130). -/
theorem test_sub_borrows_from_low_nibble :
    (ran [0x90]
        { tst with regs := { tst.regs with a := 0x10, b := 0x01 } }).map
      (fun t => (t.regs.a, t.flags)) =
      some (0x0F, ⟨false, false, false, true, false⟩) := by
  decide

/-- AR11 of spec/95_test_vectors.md (R130). -/
theorem test_sub_itself :
    (ran [0x97]
        { tst with regs := { tst.regs with a := 0x35 } }).map
      (fun t => (t.regs.a, t.flags)) =
      some (0x00, ⟨false, true, true, true, false⟩) := by
  decide

/-- AR14 of spec/95_test_vectors.md (R133). -/
theorem test_sbb_memory :
    (ran [0x9E]
        { tst with regs := { tst.regs with a := 0x00, h := 0x20, l := 0x00 }, flags := { tst.flags with cy := true } }).map
      (fun t => (t.regs.a, t.flags)) =
      some (0xFF, ⟨true, false, false, true, true⟩) := by
  decide

/-- AR13 of spec/95_test_vectors.md (R132). -/
theorem test_sbb :
    (ran [0x9D]
        { tst with regs := { tst.regs with a := 0x04, l := 0x02 }, flags := { tst.flags with cy := true } }).map
      (fun t => (t.regs.a, t.flags)) =
      some (0x01, ⟨false, false, true, false, false⟩) := by
  decide

/-- AR16 of spec/95_test_vectors.md (R134). -/
theorem test_inr_low_nibble :
    (ran [0x0C]
        { tst with regs := { tst.regs with c := 0x0F } }).map
      (fun t => (t.regs.c, t.flags)) =
      some (0x10, ⟨false, false, true, false, false⟩) := by
  decide

/-- AR17 of spec/95_test_vectors.md (R134). -/
theorem test_inr_keeps_carry :
    (ran [0x3C]
        { tst with regs := { tst.regs with a := 0xFF }, flags := { tst.flags with cy := true } }).map
      (fun t => (t.regs.a, t.flags)) =
      some (0x00, ⟨false, true, true, true, true⟩) := by
  decide

/-- AR19 of spec/95_test_vectors.md (R135). -/
theorem test_inr_memory :
    (ran [0x34]
        { tst with regs := { tst.regs with h := 0x20, l := 0x00 }, mem := [(0x2000, 0x7F)] }).map
      (fun t => (t.mem.read 0x2000, t.flags)) =
      some (0x80, ⟨true, false, true, false, false⟩) := by
  decide

/-- AR21 of spec/95_test_vectors.md (R136). -/
theorem test_dcr_keeps_carry :
    (ran [0x05]
        { tst with regs := { tst.regs with b := 0x00 }, flags := { tst.flags with cy := true } }).map
      (fun t => (t.regs.b, t.flags)) =
      some (0xFF, ⟨true, false, false, true, true⟩) := by
  decide

/-- AR23 of spec/95_test_vectors.md (R137). -/
theorem test_dcr_memory_protected :
    (ran [0x35]
        { arc with regs := { tst.regs with h := 0x00, l := 0x05 }, pc := 0x2000, mem := [(0x0005, 0x10)] }).map
      (fun t => (t.mem.read 0x0005, t.flags, t.diag)) =
      some (0x10, ⟨false, false, false, true, false⟩, [.illegalWrite 0x0005 0x0F 0x2000]) := by
  decide

/-- AR24 of spec/95_test_vectors.md (R138). -/
theorem test_inx :
    (ran [0x13]
        { tst with regs := { tst.regs with d := 0x38, e := 0xFF } }).map
      (fun t => (joinBytes t.regs.d t.regs.e, t.flags)) =
      some (0x3900, ⟨false, false, false, false, false⟩) := by
  decide

/-- AR25 of spec/95_test_vectors.md (R138). -/
theorem test_inx_sp_wraps :
    (ran [0x33]
        { tst with sp := 0xFFFF }).map
      (fun t => t.sp) =
      some 0x0000 := by
  decide

/-- AR26 of spec/95_test_vectors.md (R139). -/
theorem test_dcx_wraps :
    (ran [0x2B]
        { tst with regs := { tst.regs with h := 0x00, l := 0x00 } }).map
      (fun t => (joinBytes t.regs.h t.regs.l, t.flags)) =
      some (0xFFFF, ⟨false, false, false, false, false⟩) := by
  decide

/-- AR27 of spec/95_test_vectors.md (R140). -/
theorem test_dad :
    (ran [0x09]
        { tst with regs := { tst.regs with b := 0x33, c := 0x9F, h := 0xA1, l := 0x7B } }).map
      (fun t => (joinBytes t.regs.h t.regs.l, t.flags)) =
      some (0xD51A, ⟨false, false, false, false, false⟩) := by
  decide

/-- AR29 of spec/95_test_vectors.md (R140). -/
theorem test_dad_sp_keeps_z :
    (ran [0x39]
        { tst with regs := { tst.regs with h := 0x00, l := 0x01 }, flags := { tst.flags with z := true }, sp := 0xFFFF }).map
      (fun t => (joinBytes t.regs.h t.regs.l, t.flags)) =
      some (0x0000, ⟨false, true, false, false, true⟩) := by
  decide

/-- E3.1 of spec/95_test_vectors.md, a check of the source (R141). -/
theorem test_daa_low_nibble :
    (ran [0x27]
        { tst with regs := { tst.regs with a := 0x0F } }).map
      (fun t => (t.regs.a, t.flags)) =
      some (0x15, ⟨false, false, true, false, false⟩) := by
  decide

/-- E3.2 of spec/95_test_vectors.md, a check of the source (R141). -/
theorem test_daa_both_nibbles :
    (ran [0x27]
        { tst with regs := { tst.regs with a := 0x9A } }).map
      (fun t => (t.regs.a, t.flags)) =
      some (0x00, ⟨false, true, true, true, true⟩) := by
  decide

/-- LG1 of spec/95_test_vectors.md (R150). -/
theorem test_ana_ac_from_bit3 :
    (ran [0xA1]
        { tst with regs := { tst.regs with a := 0xFC, c := 0x0F } }).map
      (fun t => (t.regs.a, t.flags)) =
      some (0x0C, ⟨false, false, true, true, false⟩) := by
  decide

/-- LG2 of spec/95_test_vectors.md (R150). -/
theorem test_ana_ac_zero :
    (ran [0xA1]
        { tst with regs := { tst.regs with a := 0xFC, c := 0x0F }, cfg := { tst.cfg with anaAcMode := .zero } }).map
      (fun t => (t.regs.a, t.flags)) =
      some (0x0C, ⟨false, false, false, true, false⟩) := by
  decide

/-- LG6 of spec/95_test_vectors.md (R152). -/
theorem test_xra_clears :
    (ran [0xAF]
        { tst with regs := { tst.regs with a := 0x5C }, flags := { tst.flags with cy := true, ac := true } }).map
      (fun t => (t.regs.a, t.flags)) =
      some (0x00, ⟨false, true, false, true, false⟩) := by
  decide

/-- LG8 of spec/95_test_vectors.md (R154). -/
theorem test_ora :
    (ran [0xB1]
        { tst with regs := { tst.regs with a := 0x33, c := 0x0F } }).map
      (fun t => (t.regs.a, t.flags)) =
      some (0x3F, ⟨false, false, false, true, false⟩) := by
  decide

/-- E8.2 of spec/95_test_vectors.md, a check of the source (R154, R30). -/
theorem test_ora_parity :
    (ran [0xB7]
        { tst with regs := { tst.regs with a := 0x03 } }).map
      (fun t => (t.regs.a, t.flags.p, t.flags)) =
      some (0x03, true, ⟨false, false, false, true, false⟩) := by
  decide

/-- LG12 of spec/95_test_vectors.md (R156). -/
theorem test_cmp_less :
    (ran [0xBB]
        { tst with regs := { tst.regs with a := 0x05, e := 0x0A } }).map
      (fun t => (t.regs.a, t.flags)) =
      some (0x05, ⟨true, false, false, false, true⟩) := by
  decide

/-- E2.3 of spec/95_test_vectors.md, a check of the source (R156). -/
theorem test_cmp_borrow :
    (ran [0xB8]
        { tst with regs := { tst.regs with a := 0x00, b := 0x01 } }).map
      (fun t => (t.regs.a, t.flags)) =
      some (0x00, ⟨true, false, false, true, true⟩) := by
  decide

/-- LG14 of spec/95_test_vectors.md (R158). -/
theorem test_ani :
    (ran [0xE6, 0x0F]
        { tst with regs := { tst.regs with a := 0x3A } }).map
      (fun t => (t.regs.a, t.flags, t.pc)) =
      some (0x0A, ⟨false, false, true, true, false⟩, 0x0102) := by
  decide

/-- LG15 of spec/95_test_vectors.md (R159). -/
theorem test_xri :
    (ran [0xEE, 0x81]
        { tst with regs := { tst.regs with a := 0x3B } }).map
      (fun t => (t.regs.a, t.flags)) =
      some (0xBA, ⟨true, false, false, false, false⟩) := by
  decide

/-- LG16 of spec/95_test_vectors.md (R160). -/
theorem test_ori :
    (ran [0xF6, 0x0F]
        { tst with regs := { tst.regs with a := 0xB5 } }).map
      (fun t => (t.regs.a, t.flags)) =
      some (0xBF, ⟨true, false, false, false, false⟩) := by
  decide

/-- LG18 of spec/95_test_vectors.md (R161). -/
theorem test_cpi :
    (ran [0xFE, 0x00]
        { tst with regs := { tst.regs with a := 0x00 } }).map
      (fun t => (t.regs.a, t.flags)) =
      some (0x00, ⟨false, true, true, true, false⟩) := by
  decide

/-- LG19 of spec/95_test_vectors.md (R162). -/
theorem test_adi :
    (ran [0xC6, 0x42]
        { tst with regs := { tst.regs with a := 0x14 } }).map
      (fun t => (t.regs.a, t.flags)) =
      some (0x56, ⟨false, false, false, true, false⟩) := by
  decide

/-- LG20 of spec/95_test_vectors.md (R163). -/
theorem test_aci :
    (ran [0xCE, 0xBE]
        { tst with regs := { tst.regs with a := 0x56 } }).map
      (fun t => (t.regs.a, t.flags)) =
      some (0x14, ⟨false, false, true, true, true⟩) := by
  decide

/-- LG21 of spec/95_test_vectors.md (R164). -/
theorem test_sui :
    (ran [0xD6, 0x01]
        { tst with regs := { tst.regs with a := 0x00 } }).map
      (fun t => (t.regs.a, t.flags)) =
      some (0xFF, ⟨true, false, false, true, true⟩) := by
  decide

/-- LG22 of spec/95_test_vectors.md (R165). -/
theorem test_sbi :
    (ran [0xDE, 0x01]
        { tst with regs := { tst.regs with a := 0x00 }, flags := { tst.flags with cy := true } }).map
      (fun t => (t.regs.a, t.flags)) =
      some (0xFE, ⟨true, false, false, false, true⟩) := by
  decide

/-- RO2 of spec/95_test_vectors.md (R170). -/
theorem test_rlc_only_carry :
    (ran [0x07]
        { tst with regs := { tst.regs with a := 0x80 }, flags := { tst.flags with z := true, s := true } }).map
      (fun t => (t.regs.a, t.flags)) =
      some (0x01, ⟨true, true, false, false, true⟩) := by
  decide

/-- RO3 of spec/95_test_vectors.md (R171). -/
theorem test_rrc :
    (ran [0x0F]
        { tst with regs := { tst.regs with a := 0xF2 } }).map
      (fun t => (t.regs.a, t.flags)) =
      some (0x79, ⟨false, false, false, false, false⟩) := by
  decide

/-- RO5 of spec/95_test_vectors.md (R172). -/
theorem test_ral :
    (ran [0x17]
        { tst with regs := { tst.regs with a := 0xB5 } }).map
      (fun t => (t.regs.a, t.flags)) =
      some (0x6A, ⟨false, false, false, false, true⟩) := by
  decide

/-- RO8 of spec/95_test_vectors.md (R173). -/
theorem test_rar_z_not_written :
    (ran [0x1F]
        { tst with regs := { tst.regs with a := 0x01 } }).map
      (fun t => (t.regs.a, t.flags)) =
      some (0x00, ⟨false, false, false, false, true⟩) := by
  decide

/-- BR1 of spec/95_test_vectors.md (R187). -/
theorem test_jmp :
    (ran [0xC3, 0x00, 0x01] tst).map
      (fun t => t.pc) =
      some 0x0100 := by
  decide

/-- BR2 of spec/95_test_vectors.md (R188). -/
theorem test_jnz_taken :
    (ran [0xC2, 0x34, 0x12] tst).map
      (fun t => t.pc) =
      some 0x1234 := by
  decide

/-- BR3 of spec/95_test_vectors.md (R188). -/
theorem test_jnz_not_taken :
    (ran [0xC2, 0x34, 0x12]
        { tst with flags := { tst.flags with z := true } }).map
      (fun t => t.pc) =
      some 0x0103 := by
  decide

/-- BR4 of spec/95_test_vectors.md (R189). -/
theorem test_jz :
    (ran [0xCA, 0x00, 0x20]
        { tst with flags := { tst.flags with z := true } }).map
      (fun t => t.pc) =
      some 0x2000 := by
  decide

/-- BR5 of spec/95_test_vectors.md (R190). -/
theorem test_jnc :
    (ran [0xD2, 0x00, 0x20]
        { tst with flags := { tst.flags with cy := true } }).map
      (fun t => t.pc) =
      some 0x0103 := by
  decide

/-- BR6 of spec/95_test_vectors.md (R191). -/
theorem test_jc :
    (ran [0xDA, 0x10, 0x00]
        { tst with flags := { tst.flags with cy := true } }).map
      (fun t => t.pc) =
      some 0x0010 := by
  decide

/-- BR7 of spec/95_test_vectors.md (R192). -/
theorem test_jpo :
    (ran [0xE2, 0x00, 0x30] tst).map
      (fun t => t.pc) =
      some 0x3000 := by
  decide

/-- BR8 of spec/95_test_vectors.md (R193). -/
theorem test_jpe :
    (ran [0xEA, 0x00, 0x30]
        { tst with flags := { tst.flags with p := true } }).map
      (fun t => t.pc) =
      some 0x3000 := by
  decide

/-- BR9 of spec/95_test_vectors.md (R194). -/
theorem test_jp :
    (ran [0xF2, 0x00, 0x30] tst).map
      (fun t => t.pc) =
      some 0x3000 := by
  decide

/-- BR10 of spec/95_test_vectors.md (R195). -/
theorem test_jm :
    (ran [0xFA, 0x00, 0x30] tst).map
      (fun t => t.pc) =
      some 0x0103 := by
  decide

/-- BR11 of spec/95_test_vectors.md (R196). -/
theorem test_call :
    (ran [0xCD, 0x00, 0x03]
        { tst with sp := 0x2400 }).map
      (fun t => (t.pc, t.sp, t.mem.read 0x23FF, t.mem.read 0x23FE)) =
      some (0x0300, 0x23FE, 0x01, 0x03) := by
  decide

/-- BR13 of spec/95_test_vectors.md (R196). -/
theorem test_call_into_rom :
    (ran [0xCD, 0x00, 0x03]
        { arc with sp := 0x0001, pc := 0x2100 }).map
      (fun t => (t.pc, t.sp, t.mem.read 0x0000, t.mem.read 0xFFFF, t.diag)) =
      some (0x0300, 0xFFFF, 0x00, 0x03, [.illegalWrite 0x0000 0x21 0x2100]) := by
  decide

/-- BR14 of spec/95_test_vectors.md (R197). -/
theorem test_cnz :
    (ran [0xC4, 0x00, 0x03]
        { tst with flags := { tst.flags with z := true }, sp := 0x2400 }).map
      (fun t => (t.pc, t.sp)) =
      some (0x0103, 0x2400) := by
  decide

/-- BR15 of spec/95_test_vectors.md (R198). -/
theorem test_cz :
    (ran [0xCC, 0x00, 0x03]
        { tst with flags := { tst.flags with z := true }, sp := 0x2400 }).map
      (fun t => (t.pc, t.sp, t.mem.read 0x23FE)) =
      some (0x0300, 0x23FE, 0x03) := by
  decide

/-- BR16 of spec/95_test_vectors.md (R199). -/
theorem test_cnc :
    (ran [0xD4, 0x00, 0x03]
        { tst with sp := 0x2400 }).map
      (fun t => (t.pc, t.sp)) =
      some (0x0300, 0x23FE) := by
  decide

/-- BR17 of spec/95_test_vectors.md (R200). -/
theorem test_cc :
    (ran [0xDC, 0x00, 0x03]
        { tst with sp := 0x2400 }).map
      (fun t => (t.pc, t.sp)) =
      some (0x0103, 0x2400) := by
  decide

/-- BR18 of spec/95_test_vectors.md (R201). -/
theorem test_cpo :
    (ran [0xE4, 0x00, 0x03]
        { tst with sp := 0x2400 }).map
      (fun t => (t.pc, t.sp)) =
      some (0x0300, 0x23FE) := by
  decide

/-- BR19 of spec/95_test_vectors.md (R202). -/
theorem test_cpe :
    (ran [0xEC, 0x00, 0x03]
        { tst with sp := 0x2400 }).map
      (fun t => (t.pc, t.sp)) =
      some (0x0103, 0x2400) := by
  decide

/-- BR20 of spec/95_test_vectors.md (R203). -/
theorem test_cp :
    (ran [0xF4, 0x00, 0x03]
        { tst with sp := 0x2400 }).map
      (fun t => (t.pc, t.sp)) =
      some (0x0300, 0x23FE) := by
  decide

/-- BR21 of spec/95_test_vectors.md (R204). -/
theorem test_cm :
    (ran [0xFC, 0x00, 0x03]
        { tst with flags := { tst.flags with s := true }, sp := 0x2400 }).map
      (fun t => (t.pc, t.sp)) =
      some (0x0300, 0x23FE) := by
  decide

/-- BR23 of spec/95_test_vectors.md (R205). -/
theorem test_ret_wraps :
    (ran [0xC9]
        { tst with sp := 0xFFFF, mem := [(0x0000, 0x02)] }).map
      (fun t => (t.pc, t.sp)) =
      some (0x0200, 0x0001) := by
  decide

/-- BR24 of spec/95_test_vectors.md (R206). -/
theorem test_rnz :
    (ran [0xC0]
        { tst with flags := { tst.flags with z := true }, sp := 0x23FE, mem := [(0x23FE, 0x03), (0x23FF, 0x01)] }).map
      (fun t => (t.pc, t.sp)) =
      some (0x0101, 0x23FE) := by
  decide

/-- BR25 of spec/95_test_vectors.md (R207). -/
theorem test_rz :
    (ran [0xC8]
        { tst with flags := { tst.flags with z := true }, sp := 0x23FE, mem := [(0x23FE, 0x03), (0x23FF, 0x01)] }).map
      (fun t => (t.pc, t.sp)) =
      some (0x0103, 0x2400) := by
  decide

/-- BR26 of spec/95_test_vectors.md (R208). -/
theorem test_rnc :
    (ran [0xD0]
        { tst with sp := 0x23FE, mem := [(0x23FE, 0x03), (0x23FF, 0x01)] }).map
      (fun t => (t.pc, t.sp)) =
      some (0x0103, 0x2400) := by
  decide

/-- BR27 of spec/95_test_vectors.md (R209). -/
theorem test_rc :
    (ran [0xD8]
        { tst with sp := 0x23FE, mem := [(0x23FE, 0x03), (0x23FF, 0x01)] }).map
      (fun t => (t.pc, t.sp)) =
      some (0x0101, 0x23FE) := by
  decide

/-- BR28 of spec/95_test_vectors.md (R210). -/
theorem test_rpo :
    (ran [0xE0]
        { tst with sp := 0x23FE, mem := [(0x23FE, 0x03), (0x23FF, 0x01)] }).map
      (fun t => (t.pc, t.sp)) =
      some (0x0103, 0x2400) := by
  decide

/-- BR29 of spec/95_test_vectors.md (R211). -/
theorem test_rpe :
    (ran [0xE8]
        { tst with flags := { tst.flags with p := true }, sp := 0x23FE, mem := [(0x23FE, 0x03), (0x23FF, 0x01)] }).map
      (fun t => (t.pc, t.sp)) =
      some (0x0103, 0x2400) := by
  decide

/-- BR30 of spec/95_test_vectors.md (R212). -/
theorem test_rp :
    (ran [0xF0]
        { tst with sp := 0x23FE, mem := [(0x23FE, 0x03), (0x23FF, 0x01)] }).map
      (fun t => (t.pc, t.sp)) =
      some (0x0103, 0x2400) := by
  decide

/-- BR31 of spec/95_test_vectors.md (R213). -/
theorem test_rm :
    (ran [0xF8]
        { tst with flags := { tst.flags with s := true }, sp := 0x23FE, mem := [(0x23FE, 0x03), (0x23FF, 0x01)] }).map
      (fun t => (t.pc, t.sp)) =
      some (0x0103, 0x2400) := by
  decide

/-- BR32 of spec/95_test_vectors.md (R214). -/
theorem test_rst1 :
    (ran [0xCF]
        { tst with pc := 0x0150, sp := 0x2400 }).map
      (fun t => (t.pc, t.sp, t.mem.read 0x23FF, t.mem.read 0x23FE)) =
      some (0x0008, 0x23FE, 0x01, 0x51) := by
  decide

/-- BR33 of spec/95_test_vectors.md (R214). -/
theorem test_rst7 :
    (ran [0xFF]
        { tst with pc := 0x0150, sp := 0x2400 }).map
      (fun t => (t.pc, t.sp, t.mem.read 0x23FE)) =
      some (0x0038, 0x23FE, 0x51) := by
  decide

/-- ST1 of spec/95_test_vectors.md (R220). -/
theorem test_push :
    (ran [0xC5]
        { tst with regs := { tst.regs with b := 0x12, c := 0x34 }, sp := 0x2400 }).map
      (fun t => (t.sp, t.mem.read 0x23FF, t.mem.read 0x23FE)) =
      some (0x23FE, 0x12, 0x34) := by
  decide

/-- ST4 of spec/95_test_vectors.md (R221). -/
theorem test_push_psw :
    (ran [0xF5]
        { tst with regs := { tst.regs with a := 0x1F }, flags := { tst.flags with z := true, p := true, cy := true }, sp := 0x2400 }).map
      (fun t => (t.sp, t.mem.read 0x23FF, t.mem.read 0x23FE)) =
      some (0x23FE, 0x1F, 0x47) := by
  decide

/-- ST7 of spec/95_test_vectors.md (R222). -/
theorem test_pop :
    (ran [0xE1]
        { tst with sp := 0x23FE, mem := [(0x23FE, 0x3D), (0x23FF, 0x93)] }).map
      (fun t => (joinBytes t.regs.h t.regs.l, t.sp)) =
      some (0x933D, 0x2400) := by
  decide

/-- ST10 of spec/95_test_vectors.md (R223). -/
theorem test_pop_psw :
    (ran [0xF1]
        { tst with sp := 0x23FE, mem := [(0x23FE, 0xC3), (0x23FF, 0xFF)] }).map
      (fun t => (t.regs.a, t.flags, t.sp)) =
      some (0xFF, ⟨true, true, false, false, true⟩, 0x2400) := by
  decide

/-- ST12 of spec/95_test_vectors.md (R223). -/
theorem test_pop_psw_drops_fixed_bits :
    (ran [0xF1]
        { tst with sp := 0x23FE, mem := [(0x23FE, 0x28)] }).map
      (fun t => (t.regs.a, t.flags)) =
      some (0x00, ⟨false, false, false, false, false⟩) := by
  decide

/-- CT1 of spec/95_test_vectors.md (R230). -/
theorem test_nop_adds_cycles :
    (ran [0x00]
        { tst with pc := 0x0010 }).map
      (fun t => (t.pc, t.cyc)) =
      some (0x0011, 4) := by
  decide

/-- CT2 of spec/95_test_vectors.md (R231). -/
theorem test_hlt :
    (ran [0x76]
        { tst with pc := 0x0200 }).map
      (fun t => (t.halted, t.pc, t.diag)) =
      some (true, 0x0201, []) := by
  decide

/-- CT3 of spec/95_test_vectors.md (R231). -/
theorem test_hlt_at_the_top :
    (ran [0x76]
        { tst with pc := 0xFFFF }).map
      (fun t => (t.halted, t.pc, t.diag)) =
      some (true, 0x0000, [.programCounterOverflow 0xFFFF]) := by
  decide

/-- CT4 of spec/95_test_vectors.md (R232). -/
theorem test_di :
    (ran [0xF3]
        { tst with inte := true }).map
      (fun t => t.inte) =
      some false := by
  decide

/-- CT5 of spec/95_test_vectors.md (R233). -/
theorem test_ei :
    (ran [0xFB] tst).map
      (fun t => t.inte) =
      some true := by
  decide

/-- CT6 of spec/95_test_vectors.md (R234). -/
theorem test_cma :
    (ran [0x2F]
        { tst with regs := { tst.regs with a := 0x51 } }).map
      (fun t => (t.regs.a, t.flags)) =
      some (0xAE, ⟨false, false, false, false, false⟩) := by
  decide

/-- CT7 of spec/95_test_vectors.md (R235). -/
theorem test_cmc :
    (ran [0x3F]
        { tst with flags := { tst.flags with cy := true } }).map
      (fun t => t.flags) =
      some ⟨false, false, false, false, false⟩ := by
  decide

/-- CT9 of spec/95_test_vectors.md (R236). -/
theorem test_stc :
    (ran [0x37] tst).map
      (fun t => t.flags) =
      some ⟨false, false, false, false, true⟩ := by
  decide

/-- IO1 of spec/95_test_vectors.md (R240). -/
theorem test_in_latch :
    (ran [0xDB, 0x01]
        { tst with inLatch := #v[0x11, 0x22, 0x33, 0x44] }).map
      (fun t => (t.regs.a, t.pc)) =
      some (0x22, 0x0102) := by
  decide

/-- IO2 of spec/95_test_vectors.md (R240). -/
theorem test_in_shift :
    (ran [0xDB, 0x03]
        { tst with sr := 0xFF00, soff := 1 }).map
      (fun t => (t.regs.a, t.sr, t.soff)) =
      some (0xFE, 0xFF00, 1) := by
  decide

/-- IO7 of spec/95_test_vectors.md (R66, R240). -/
theorem test_in_without_latch :
    step (withBytes [0xDB, 0x04] tst) = .refused (.inPortWithoutLatch 0x04) := by
  rfl

/-- IO9 of spec/95_test_vectors.md (R241). -/
theorem test_out_shift :
    (ran [0xD3, 0x04]
        { tst with regs := { tst.regs with a := 0xCD }, sr := 0xAB00 }).map
      (fun t => t.sr) =
      some 0xCDAB := by
  decide

/-- IO11 of spec/95_test_vectors.md (R241). -/
theorem test_out_latch :
    (ran [0xD3, 0x06]
        { tst with regs := { tst.regs with a := 0x5A } }).map
      (fun t => t.outLatch) =
      some (#v[0x00, 0x00, 0x00, 0x00, 0x00, 0x00, 0x5A]) := by
  decide

/-- IO12 of spec/95_test_vectors.md (R67, R241). -/
theorem test_out_without_latch :
    step (withBytes [0xD3, 0x07]
        { tst with regs := { tst.regs with a := 0x5A } }) = .refused (.outPortWithoutLatch 0x07) := by
  rfl

/-- EX1 of spec/95_test_vectors.md (R92). -/
theorem test_illegal_byte :
    (ran [0x08] tst).map
      (fun t => (t.halted, t.pc, t.cyc, t.diag)) =
      some (true, 0x0100, 0, [.fatalDecodeError 0x08 0x0100]) := by
  decide

/-- EX3 of spec/95_test_vectors.md (R88). -/
theorem test_advance_past_the_top :
    (ran [0x00]
        { tst with pc := 0xFFFF }).map
      (fun t => (t.halted, t.pc, t.cyc, t.diag)) =
      some (true, 0x0000, 4, [.programCounterOverflow 0xFFFF]) := by
  decide

/-- EX4 of spec/95_test_vectors.md (R87). -/
theorem test_straddling_not_executed :
    (ran [0x21, 0x34]
        { tst with pc := 0xFFFE }).map
      (fun t => (t.halted, t.pc, joinBytes t.regs.h t.regs.l, t.cyc, t.diag)) =
      some (true, 0xFFFE, 0x0000, 0, [.programCounterOverflow 0xFFFE]) := by
  decide

/-- EX7 of spec/95_test_vectors.md (R88). -/
theorem test_jump_not_taken_at_the_top :
    (ran [0xC2, 0x00, 0x01]
        { tst with flags := { tst.flags with z := true }, pc := 0xFFFD }).map
      (fun t => (t.halted, t.pc, t.diag)) =
      some (true, 0x0000, [.programCounterOverflow 0xFFFD]) := by
  decide

/-- EX9 of spec/95_test_vectors.md (R55, R251). -/
theorem test_strict_write_halts :
    (ran [0x32, 0x00, 0x10]
        { arc with regs := { tst.regs with a := 0x42 }, pc := 0x2100, cfg := { arc.cfg with strictIllegalWrite := true } }).map
      (fun t => (t.mem.read 0x1000, t.halted, t.pc, t.diag)) =
      some (0x00, true, 0x2103, [.illegalWrite 0x1000 0x42 0x2100]) := by
  decide

/-- EX10 of spec/95_test_vectors.md (R255). -/
theorem test_push_into_rom_reports_in_order :
    (ran [0xE5]
        { arc with regs := { tst.regs with h := 0x12, l := 0x34 }, sp := 0x1000, pc := 0x2100 }).map
      (fun t => (t.sp, t.halted, t.diag)) =
      some (0x0FFE, false, [.illegalWrite 0x0FFF 0x12 0x2100, .illegalWrite 0x0FFE 0x34 0x2100]) := by
  decide

/-- IN1 of spec/95_test_vectors.md (R262). -/
theorem test_interrupt_disabled :
    (nextOf (raiseInterrupt 1
        { tst with regs := { tst.regs with a := 0x77 }, flags := { tst.flags with cy := true }, pc := 0x0123, sp := 0x2400 })).map
      (fun t => (t.pc, t.sp, t.inte, t.regs.a, t.flags, t.mem.read 0x23FF, t.mem.read 0x23FE)) =
      some (0x0123, 0x2400, false, 0x77, ⟨false, false, false, false, true⟩, 0x00, 0x00) := by
  rfl

/-- IN2 of spec/95_test_vectors.md (R262). -/
theorem test_interrupt_accepted :
    (nextOf (raiseInterrupt 1
        { tst with regs := { tst.regs with a := 0x77 }, flags := { tst.flags with cy := true }, inte := true, pc := 0x0123, sp := 0x2400 })).map
      (fun t => (t.pc, t.sp, t.inte, t.regs.a, t.flags, t.mem.read 0x23FF, t.mem.read 0x23FE)) =
      some (0x0008, 0x23FE, false, 0x77, ⟨false, false, false, false, true⟩, 0x01, 0x23) := by
  rfl

/-- IN3 of spec/95_test_vectors.md (R262, R266). -/
theorem test_interrupt_then_ret :
    ((nextOf (raiseInterrupt 1
        { tst with inte := true, pc := 0x0123, sp := 0x2400, mem := [(0x0008, 0xC9)] })).bind fun u => nextOf (step u)).map
      (fun t => (t.pc, t.sp, t.inte)) =
      some (0x0123, 0x2400, false) := by
  decide

/-- IN6 of spec/95_test_vectors.md (R262). -/
theorem test_interrupt_not_mapped :
    raiseInterrupt 3
        { tst with inte := true, pc := 0x0123, sp := 0x2400 } = .refused (.interruptIdNotMapped 3) := by
  rfl

/-- IN7 of spec/95_test_vectors.md (R265). -/
theorem test_second_interrupt_dropped :
    ((nextOf (raiseInterrupt 1
        { tst with inte := true, pc := 0x0123, sp := 0x2400 })).bind fun u => nextOf (raiseInterrupt 2 u)).map
      (fun t => (t.pc, t.sp, t.inte)) =
      some (0x0008, 0x23FE, false) := by
  decide

/-- IN9 of spec/95_test_vectors.md (R264). -/
theorem test_interrupt_wakes :
    (nextOf (raiseInterrupt 1
        { tst with inte := true, pc := 0x0201, sp := 0x2400, halted := true, cfg := { tst.cfg with haltWake := true } })).map
      (fun t => (t.pc, t.sp, t.inte, t.halted)) =
      some (0x0008, 0x23FE, false, false) := by
  decide

/-- IN10 of spec/95_test_vectors.md (R262). -/
theorem test_interrupt_into_rom :
    (nextOf (raiseInterrupt 1
        { arc with inte := true, pc := 0x2123, sp := 0x1000 })).map
      (fun t => (t.pc, t.sp, t.diag)) =
      some (0x0008, 0x0FFE, [.illegalWrite 0x0FFF 0x21 0x2122, .illegalWrite 0x0FFE 0x23 0x2122]) := by
  decide

/-! ### Witnesses: for each obligation with hypotheses, a concrete case that meets them -/

/-- An arcade state with a stack in RAM, interrupts enabled and a CALL at PC. -/
def arcadeState : State :=
  { State.reset with pc := 0x0120, sp := 0x2400, inte := true, mem := [(0x0120, 0xCD), (0x0122, 0x03)] }

/-- The lowest SP from which both bytes of a push are stored in arcade mode. -/
def lowestStack : State := { arcadeState with sp := 0x2002 }

/-- For every statement over a table of forms: how many forms each table has. -/
theorem witness_forms :
    [movForms.length, movFromMemoryForms.length, (mviForms 0x00).length, (lxiForms 0x0000).length,
      (byteStoreForms 0x00 0x0000 tst).length, (addForms 0x00).length, (adcForms 0x00).length, (subForms 0x00).length,
      (sbbForms 0x00).length, (anaForms 0x00).length, (xraForms 0x00).length, (oraForms 0x00).length,
      (cmpForms 0x00).length, inrForms.length, dcrForms.length, inxForms.length, dcxForms.length, dadForms.length,
      (jumpForms 0x0000).length, (callForms 0x0000).length, returnForms.length, restartForms.length,
      pushForms.length, popForms.length, pushPopForms.length, illegalForms.length] =
    [49, 7, 7, 4, 11, 9, 9, 9, 9, 9, 9, 9, 9, 7, 7, 4, 4, 4, 9, 9, 9, 8, 3, 3, 3, 12] := by
  decide

theorem witness_EncodeInvertsDecode : decode [0x21, 0x34, 0x12, 0x76] = .ok (.lxiH 0x1234, [0x76]) := by rfl

/-- Both clauses at their boundary, for each length. -/
theorem witness_LengthIsAFunctionOfTheOpcode :
    (([0x34] : List Byte).length + 1 < opcodeLength 0x21 ∧ opcodeLength 0x21 ≤ ([0x34, 0x12] : List Byte).length + 1) ∧
      (([] : List Byte).length + 1 < opcodeLength 0x3E ∧ opcodeLength 0x3E ≤ ([0x42] : List Byte).length + 1) ∧
      opcodeLength 0x08 ≤ ([] : List Byte).length + 1 := by
  decide

/-- A legal instruction, an illegal byte and a refused port. -/
theorem witness_StepRunsTheDecodedInstruction :
    (arcadeState.halted = false ∧ decode (fetchBytes arcadeState) = .ok (.call 0x0300, []) ∧
      (nextOf (exec (.call 0x0300) arcadeState)).isSome = true ∧ isIllegal (opcodeOf (.call 0x0300)) = false) ∧
    (decode (fetchBytes (withBytes [0x08] tst)) = .ok (.illegal08, [0x00, 0x00]) ∧
      (nextOf (exec .illegal08 (withBytes [0x08] tst))).isSome = true ∧ isIllegal (opcodeOf .illegal08) = true) ∧
    (decode (fetchBytes (withBytes [0xDB, 0xFF] tst)) = .ok (.inp 0xFF, [0x00]) ∧
      exec (.inp 0xFF) (withBytes [0xDB, 0xFF] tst) = .refused (.inPortWithoutLatch 0xFF)) :=
  ⟨⟨rfl, rfl, rfl, rfl⟩, ⟨rfl, rfl, rfl⟩, ⟨rfl, rfl⟩⟩

/-- A 3-byte instruction that ends at 0xFFFF. -/
theorem witness_StepRunsTheEncodingInMemory :
    let s : State := withBytes [0xC3, 0x00, 0x01] { tst with pc := 0xFFFD }
    s.halted = false ∧ (Instr.jmp 0x0100).wellFormedAt s.pc = true ∧
      ∀ k, k < (Instr.jmp 0x0100).length → s.mem.read (s.pc.toNat + k) = (encode (.jmp 0x0100)).getD k 0 := by
  decide

theorem witness_StraddlingInstructionIsNotExecuted :
    (let s : State := withBytes [0x21, 0x34] { tst with pc := 0xFFFE }
     s.halted = false ∧ 65536 < s.pc.toNat + opcodeLength (s.mem.read s.pc.toNat)) ∧
    (let s : State := withBytes [0x3E] { tst with pc := 0xFFFF }
     s.halted = false ∧ 65536 < s.pc.toNat + opcodeLength (s.mem.read s.pc.toNat)) := by
  decide

theorem witness_HaltedStateHasNoStep : ({ tst with halted := true } : State).halted = true ∧ tst.halted = false := by
  decide

theorem witness_IllegalByteRaisesFatalDecodeError :
    (Instr.illegal08, (0x08 : Byte)) ∈ illegalForms ∧ (withBytes [0x08] tst).halted = false ∧
      (withBytes [0x08] tst).mem.read (withBytes [0x08] tst).pc.toNat = 0x08 ∧
      (Instr.illegalfd, (0xFD : Byte)) ∈ illegalForms := by
  decide

theorem witness_DaaAfterAciAddsDecimals :
    isBcd ({ tst with regs := { tst.regs with a := 0x99 } } : State).regs.a = true ∧ isBcd 0x99 = true ∧
      isBcd 0x00 = true := by
  decide

/-- JumpsGoToTheirTarget, CallsPushTheReturnAddress, ReturnsPopTheirAddress: both values of every condition. -/
theorem witness_conditions :
    (callForms 0x0300).map (fun f => (f.taken ⟨false, false, false, false, false⟩, f.taken ⟨true, true, true, true, true⟩)) =
      [(true, true), (true, false), (false, true), (true, false), (false, true), (true, false), (false, true),
        (true, false), (false, true)] := by
  decide

/-- CallThenReturnResumes, PushThenPopRestores, InterruptThenReturnResumes. -/
theorem witness_pushStored : pushStored arcadeState ∧ pushStored lowestStack ∧ pushStored tst := by
  unfold pushStored
  decide

/-- The later state of the same three statements, with other registers and another PC. -/
theorem witness_SameStackTop : SameStackTop arcadeState { arcadeState with pc := 0x0300, regs := ⟨1, 2, 3, 4, 5, 6, 7⟩ } :=
  ⟨rfl, rfl⟩

/-- InReadsLatchesAndShiftWindow, OutWritesLatchesAndShiftDevice: each clause at the ends of its range. -/
theorem witness_ports :
    ((0x00 : Byte).toNat < 3 ∧ (0x02 : Byte).toNat < 3 ∧ (0x03 : Byte).toNat = 3 ∧ 4 ≤ (0x04 : Byte).toNat ∧
      4 ≤ (0xFF : Byte).toNat) ∧
    ((0x00 : Byte).toNat < 7 ∧ (0x00 : Byte).toNat ≠ 2 ∧ (0x00 : Byte).toNat ≠ 4 ∧ (0x06 : Byte).toNat < 7 ∧
      (0x06 : Byte).toNat ≠ 2 ∧ (0x06 : Byte).toNat ≠ 4 ∧ (0x02 : Byte).toNat = 2 ∧ (0x04 : Byte).toNat = 4 ∧
      7 ≤ (0x07 : Byte).toNat ∧ 7 ≤ (0xFF : Byte).toNat) ∧
    tst.cfg.shiftReadMode = .low ∧
    ({ tst with cfg := { tst.cfg with shiftReadMode := .literalHigh } } : State).cfg.shiftReadMode = .literalHigh := by
  decide

theorem witness_ShiftDeviceReadsAWindow : tst.cfg.shiftReadMode = .low := by decide

theorem witness_OnlyTheListedInstructionsWriteFlags :
    (nextOf (exec .nop tst)).isSome = true ∧ flagsWritten (opcodeOf .nop).toNat = ⟨false, false, false, false, false⟩ ∧
      (nextOf (exec .stc tst)).isSome = true ∧ flagsWritten (opcodeOf .stc).toNat = ⟨false, false, false, false, true⟩ ∧
      (nextOf (exec .inrB tst)).isSome = true ∧ flagsWritten (opcodeOf .inrB).toNat = ⟨true, true, true, true, false⟩ := by
  decide

theorem witness_OnlyTheListedInstructionsStore :
    storesToMemory (opcodeOf .movBM).toNat = false ∧ (nextOf (exec .movBM tst)).isSome = true ∧
      storesToMemory (opcodeOf .popPsw).toNat = false ∧ (nextOf (exec .popPsw tst)).isSome = true := by
  decide

theorem witness_ProcessorStatusWriters :
    (nextOf (exec .nop { tst with halted := true })).isSome = true ∧ Instr.nop ≠ .ei ∧ Instr.nop ≠ .di ∧
      (∀ p, Instr.nop ≠ .out p) ∧ ({ tst with halted := true } : State).halted = true :=
  ⟨by decide, by decide, by decide, fun _ h => (nomatch h), by decide⟩

/-- The last protected address, the first open one, the first folded one, and test mode. -/
theorem witness_WritePolicy :
    blocked State.reset 0x1FFF = true ∧ blocked State.reset 0x2000 = false ∧ 65536 ≤ 0x10000 ∧
      blocked State.reset 0x10000 = false ∧ blocked State.reset 0x0000 = true ∧ tst.cfg.mode = .test := by
  decide

theorem witness_CanonicalMemoriesAreDeterminedByTheirBytes :
    Memory.wf (Memory.write [(0x2001, 0x02)] 0x2000 0x01) = true ∧ Memory.wf [(0x2000, 0x01), (0x2001, 0x02)] = true ∧
      ∀ a, Memory.read (Memory.write [(0x2001, 0x02)] 0x2000 0x01) a = Memory.read [(0x2000, 0x01), (0x2001, 0x02)] a :=
  ⟨by decide, by decide, fun _ => rfl⟩

theorem witness_InvariantAtResetAndAfterLoad : load tst.cfg [0xAA] = .success { tst with mem := [(0x0100, 0xAA)] } := by
  rfl

/-- A canonical memory with entries, and a step that stores. -/
theorem witness_EveryStepKeepsTheInvariant :
    arcadeState.mem.wf = true ∧ (nextOf (step arcadeState)).isSome = true := by
  decide

theorem witness_CyclesOnlyAddUpThroughSteps :
    (nextOf (step arcadeState)).map (fun t => t.cyc) = some 17 := by
  decide

/-- RunsNeverChangeTheRom, RunsKeepParametersAndOnlyExtendTheLog: a run with a step, an interrupt and a host write into the ROM region, in arcade mode. -/
theorem witness_runs :
    arcadeState.cfg.mode = .arcade ∧ Machine.Inv arcadeState ∧
      (nextOf (runEvents [.step, .host (.raiseInterrupt 1), .host (.writeMemory 0x0010 0xFF), .host .resetCycles]
        arcadeState)).map (fun t => (t.pc, t.diag)) = some (0x0008, [.illegalWrite 0x0010 0xFF 0x0008]) :=
  ⟨by decide, by unfold Machine.Inv; decide, by decide⟩

theorem witness_TheCoreNeverReadsItsLogOrItsCounter :
    (nextOf (step arcadeState)).isSome = true ∧ step { tst with halted := true } = .fault .halted ∧
      step (withBytes [0xD3, 0x07] tst) = .refused (.outPortWithoutLatch 0x07) :=
  ⟨by decide, rfl, rfl⟩

theorem witness_DisabledInterruptsAreDropped :
    tst.inte = false ∧ arcadeState.inte = true ∧ (nextOf (raiseInterrupt 1 arcadeState)).isSome = true := by
  decide

/-- An id in the map and one outside it. -/
theorem witness_AcceptanceEntersTheVector :
    arcadeState.inte = true ∧ arcadeState.cfg.intVectorMap.lookup 2 = some 2 ∧
      arcadeState.cfg.intVectorMap.lookup 3 = none := by
  decide

theorem witness_InterruptThenReturnResumes :
    lowestStack.inte = true ∧ lowestStack.cfg.intVectorMap.lookup 1 = some 1 ∧ pushStored lowestStack :=
  ⟨by decide, by decide, witness_pushStored.2.1⟩

theorem witness_HostMemoryAccess : 0xFFFF < 65536 ∧ 65536 ≤ 0x10000 := by decide

theorem witness_ResetValues : Config.default.mode = .arcade ∧ tst.cfg.mode = .test := by decide

/-- One byte too many and exactly enough, in both modes. -/
theorem witness_LoadPlacesTheImage :
    8192 < (List.replicate 8193 (0xAA : Byte)).length ∧ (List.replicate 8192 (0xAA : Byte)).length ≤ 8192 ∧
      65280 < (List.replicate 65281 (0xAA : Byte)).length ∧ (List.replicate 65280 (0xAA : Byte)).length ≤ 65280 := by
  simp only [List.length_replicate]
  decide

end Sys2Proof.Tests
end

section
namespace Sys2Proof.Machine

/-! ### Canonical memories are extensional (R40, R50) -/

theorem Memory.wfFrom_cons_iff {lo a : Nat} {v : Byte} {m : Memory} :
    Memory.wfFrom lo ((a, v) :: m) = true ↔
      lo ≤ a ∧ a < memSize ∧ v ≠ Memory.unlisted ∧ m.wfFrom (a + 1) = true := by
  simp [Memory.wfFrom, and_assoc]

/-- No address below the first listed one reads as a listed byte. -/
theorem Memory.head_le_of_read_ne {lo b a : Nat} {w : Byte} {n : Memory}
    (h : Memory.wfFrom lo ((b, w) :: n) = true) (hr : Memory.read ((b, w) :: n) a ≠ Memory.unlisted) : b ≤ a := by
  obtain ⟨-, hb, hw, hn⟩ := Memory.wfFrom_cons_iff.mp h
  by_contra hlt
  exact hr (Memory.read_below (Memory.wfFrom_cons_iff.mpr ⟨le_refl b, hb, hw, hn⟩) (Nat.lt_of_not_le hlt))

/-- What the rest of a canonical list reads as: the unlisted byte at the head's address, the whole list's byte elsewhere. -/
theorem Memory.read_tail {lo a : Nat} {v : Byte} {m : Memory} (h : Memory.wfFrom lo ((a, v) :: m) = true) (c : Nat) :
    m.read c = if a = c then Memory.unlisted else Memory.read ((a, v) :: m) c := by
  obtain ⟨-, -, -, hm⟩ := Memory.wfFrom_cons_iff.mp h
  split
  · exact Memory.read_below hm (by omega)
  · rename_i hne
    rw [Memory.read_cons, if_neg hne]

theorem Memory.read_head (a : Nat) (v : Byte) (m : Memory) : Memory.read ((a, v) :: m) a = v := if_pos rfl

/-- Canonical lists with the same bytes have the same head: each head is listed in the other list. -/
theorem Memory.wfFrom_ext {m n : Memory} {lo : Nat} (hm : m.wfFrom lo = true) (hn : n.wfFrom lo = true)
    (h : ∀ a, m.read a = n.read a) : m = n := by
  induction m generalizing n lo with
  | nil =>
    cases n with
    | nil => rfl
    | cons d n =>
      obtain ⟨b, w⟩ := d
      obtain ⟨-, -, hw, -⟩ := Memory.wfFrom_cons_iff.mp hn
      exact absurd ((Memory.read_head b w n).symm.trans (h b).symm) hw
  | cons c m ih =>
    obtain ⟨a, v⟩ := c
    obtain ⟨-, -, hv, hm'⟩ := Memory.wfFrom_cons_iff.mp hm
    have ha : Memory.read n a = v := (h a).symm.trans (Memory.read_head a v m)
    cases n with
    | nil => exact absurd ha.symm hv
    | cons d n =>
      obtain ⟨b, w⟩ := d
      obtain ⟨-, -, hw, hn'⟩ := Memory.wfFrom_cons_iff.mp hn
      have hb : Memory.read ((a, v) :: m) b = w := (h b).trans (Memory.read_head b w n)
      have hba : b ≤ a := Memory.head_le_of_read_ne hn (ha ▸ hv)
      have hab : a ≤ b := Memory.head_le_of_read_ne hm (hb ▸ hw)
      obtain rfl : a = b := Nat.le_antisymm hab hba
      obtain rfl : v = w := (Memory.read_head a v m).symm.trans hb
      rw [ih hm' hn' fun c => by rw [Memory.read_tail hm, Memory.read_tail hn, h]]

end Sys2Proof.Machine

namespace Sys2Proof.Claims
open Sys2Proof.Machine

/-- Settles O47: by `Memory.wfFrom_ext`, an induction over the first list. -/
theorem canonicalMemoriesAreDeterminedByTheirBytes : Obligations.CanonicalMemoriesAreDeterminedByTheirBytes := by
  unfold Obligations.CanonicalMemoriesAreDeterminedByTheirBytes
  intro m n hm hn h
  exact Memory.wfFrom_ext hm hn h

end Sys2Proof.Claims
end

section
namespace Sys2Proof.Machine

/-! ### What a step or a host call keeps (R38, R41) -/

/-- What every run keeps: the parameters (R41), the log up to new entries (R38), the canonical form of memory. -/
def Carried (s t : State) : Prop := t.cfg = s.cfg ∧ LogGrows s t ∧ (Inv s → Inv t)

theorem Carried.trans {s t u : State} (h : Carried s t) (k : Carried t u) : Carried s u := by
  obtain ⟨hcfg, hlog, hinv⟩ := h
  obtain ⟨kcfg, klog, kinv⟩ := k
  exact ⟨kcfg.trans hcfg, List.IsPrefix.trans hlog klog, kinv ∘ hinv⟩

theorem Moves.carried {s t : State} (h : Moves s t) : Carried s t := ⟨h.cfg, h.diag, h.wf⟩

theorem Carried.refl (s : State) : Carried s s := Moves.refl.carried

/-- An accepted interrupt is a chain of moves and then a change of HALTED alone (R262, R264). -/
theorem acceptInterrupt_moves (n : BitVec 3) (s : State) :
    ∃ u b, Moves s u ∧ acceptInterrupt n s = u.setHalted b := by
  have hm : Moves s (restart n ((s.setInte false).setPc (s.pc - 1))) := .restart n (.pc _ (.inte _ .refl))
  unfold acceptInterrupt
  split
  · exact ⟨_, false, hm, rfl⟩
  · exact ⟨_, _, hm, rfl⟩

/-- Everything a raised interrupt with a next state can have done: nothing while INTE = 0, else an acceptance (R261, R262). -/
theorem raiseInterrupt_cases {id : Nat} {s t : State} (h : raiseInterrupt id s = .next t) :
    (s.inte = false ∧ t = s) ∨
      ∃ n, s.inte = true ∧ s.cfg.intVectorMap.lookup id = some n ∧ t = acceptInterrupt n s := by
  unfold raiseInterrupt at h
  split at h
  · rename_i hi
    split at h
    · rename_i n hn
      injection h with h
      exact .inr ⟨n, hi, hn, h.symm⟩
    · nomatch h
  · rename_i hi
    injection h with h
    exact .inl ⟨by simpa using hi, h.symm⟩

/-- A step or a host call is a chain of moves and then a change of HALTED, CYC and IN_LATCH alone. -/
theorem eventAct_moves {e : Event} {s t : State} (h : eventAct e s = .next t) :
    ∃ u b n v, Moves s u ∧ t = ((u.setHalted b).setCyc n).setInLatch v := by
  cases e with
  | step =>
    obtain ⟨u, n, hu, rfl⟩ := step_moves h
    exact ⟨u, _, n, _, hu, rfl⟩
  | host x =>
    cases x with
    | raiseInterrupt id =>
      obtain ⟨-, rfl⟩ | ⟨n, -, -, rfl⟩ := raiseInterrupt_cases h
      · exact ⟨_, _, _, _, .refl, rfl⟩
      · obtain ⟨u, b, hu, hacc⟩ := acceptInterrupt_moves n s
        exact ⟨u, b, _, _, hu, hacc⟩
    | writeMemory a v => cases h; exact ⟨_, _, _, _, .write a v .refl, rfl⟩
    | setInputLatch i v => cases h; exact ⟨s, _, _, s.inLatch.set i v, .refl, rfl⟩
    | resetCycles => cases h; exact ⟨s, _, 0, _, .refl, rfl⟩

theorem eventAct_carried {e : Event} {s t : State} (h : eventAct e s = .next t) : Carried s t := by
  obtain ⟨u, b, n, v, hu, rfl⟩ := eventAct_moves h
  exact hu.carried

/-- A relation that holds of a state and itself, chains, and holds across every event holds across every run (R280). -/
theorem runEvents_induction {R : State → State → Prop} (refl : ∀ s, R s s)
    (trans : ∀ {s t u}, R s t → R t u → R s u) (event : ∀ {e s t}, eventAct e s = .next t → R s t)
    {es : List Event} {s t : State} (h : runEvents es s = .next t) : R s t := by
  induction es generalizing s with
  | nil =>
    cases h
    exact refl _
  | cons e es ih =>
    unfold runEvents at h
    split at h
    · rename_i u hu
      exact trans (event hu) (ih h)
    · nomatch h
    · nomatch h

end Sys2Proof.Machine

namespace Sys2Proof.Claims
open Sys2Proof.Machine

/-- Settles O49: a step is a chain of moves and a change of CYC (`step_moves`), and moves keep the canonical form. -/
theorem everyStepKeepsTheInvariant : Obligations.EveryStepKeepsTheInvariant := by
  unfold Obligations.EveryStepKeepsTheInvariant
  intro s t hs h
  obtain ⟨u, n, hu, rfl⟩ := step_moves h
  exact hu.wf hs

/-- Settles O51: every event carries the parameters, the log and the canonical form on, so every run does. -/
theorem runsKeepParametersAndOnlyExtendTheLog : Obligations.RunsKeepParametersAndOnlyExtendTheLog := by
  unfold Obligations.RunsKeepParametersAndOnlyExtendTheLog
  intro es s t h
  exact runEvents_induction (R := Carried) Carried.refl Carried.trans eventAct_carried h

end Sys2Proof.Claims
end

section
namespace Sys2Proof.Machine

/-! ### What each instruction may write of the processor status (R31 to R36, R39)

`Moves` says what every instruction can do; the frame says what a given one leaves alone, by its own row of R32. -/

open Sys2Proof.Claims (flagsWritten)

/-- The flags that `w` does not mark are the same in `f` and `g`. -/
structure FlagsKept (w f g : Flags) : Prop where
  s  : w.s = false → g.s = f.s
  z  : w.z = false → g.z = f.z
  ac : w.ac = false → g.ac = f.ac
  p  : w.p = false → g.p = f.p
  cy : w.cy = false → g.cy = f.cy

/-- The row of R32 that may write all five flags. -/
def Flags.all : Flags := ⟨true, true, true, true, true⟩

/-- The row of R32 that may write every flag but CY. -/
def Flags.allButCarry : Flags := ⟨true, true, true, true, false⟩

/-- The row of R32 that may write CY alone. -/
def Flags.carry : Flags := ⟨false, false, false, false, true⟩

/-- The row of R32 that writes no flag. -/
def Flags.none : Flags := ⟨false, false, false, false, false⟩

theorem FlagsKept.refl (w f : Flags) : FlagsKept w f f :=
  ⟨fun _ => rfl, fun _ => rfl, fun _ => rfl, fun _ => rfl, fun _ => rfl⟩

theorem FlagsKept.all (f g : Flags) : FlagsKept .all f g := ⟨nofun, nofun, nofun, nofun, nofun⟩

theorem FlagsKept.allButCarry (x : AluResult) (f : Flags) : FlagsKept .allButCarry f (stepFlags x f) :=
  ⟨nofun, nofun, nofun, nofun, fun _ => rfl⟩

theorem FlagsKept.carry (b : Bool) (f : Flags) : FlagsKept .carry f { f with cy := b } :=
  ⟨fun _ => rfl, fun _ => rfl, fun _ => rfl, fun _ => rfl, nofun⟩

/-- What an instruction may write: flags, INTE, the output devices (SR, SOFF, OUT_LATCH). -/
structure Writes where
  flags   : Flags
  inte    : Bool
  devices : Bool

/-- The flags of a row of R32, and nothing else. -/
def Writes.flagsOnly (m : Flags) : Writes := ⟨m, false, false⟩

/-- INTE alone. -/
def Writes.inteOnly : Writes := ⟨.none, true, false⟩

/-- The output devices alone. -/
def Writes.devicesOnly : Writes := ⟨.none, false, true⟩

/-- The flags, INTE and the output devices of `t` are those of `s`, but for what `w` allows. -/
structure Frame (w : Writes) (s t : State) : Prop where
  flags    : FlagsKept w.flags s.flags t.flags
  inte     : w.inte = false → t.inte = s.inte
  sr       : w.devices = false → t.sr = s.sr
  soff     : w.devices = false → t.soff = s.soff
  outLatch : w.devices = false → t.outLatch = s.outLatch

section
variable {w : Writes} {s t : State}

theorem Frame.refl : Frame w s s := ⟨.refl _ _, fun _ => rfl, fun _ => rfl, fun _ => rfl, fun _ => rfl⟩

/-- A state that agrees with `t` on the fields of the frame has the frame of `t`. -/
theorem Frame.congr {u : State} (h : Frame w s t) (hf : u.flags = t.flags) (hi : u.inte = t.inte) (hr : u.sr = t.sr)
    (ho : u.soff = t.soff) (hl : u.outLatch = t.outLatch) : Frame w s u :=
  ⟨hf ▸ h.flags, hi ▸ h.inte, hr ▸ h.sr, ho ▸ h.soff, hl ▸ h.outLatch⟩

theorem Frame.regs (r : Regs) (h : Frame w s t) : Frame w s (t.setRegs r) := h.congr rfl rfl rfl rfl rfl

theorem Frame.setA (v : Byte) (h : Frame w s t) : Frame w s (t.setA v) := h.congr rfl rfl rfl rfl rfl

theorem Frame.sp (v : Word) (h : Frame w s t) : Frame w s (t.setSp v) := h.congr rfl rfl rfl rfl rfl

theorem Frame.pc (v : Word) (h : Frame w s t) : Frame w s (t.setPc v) := h.congr rfl rfl rfl rfl rfl

theorem Frame.halt (h : Frame w s t) : Frame w s (t.setHalted true) := h.congr rfl rfl rfl rfl rfl

theorem Frame.setFlags {f : Flags} (hf : FlagsKept w.flags s.flags f) (h : Frame w s t) : Frame w s (t.setFlags f) :=
  ⟨hf, h.inte, h.sr, h.soff, h.outLatch⟩

theorem Frame.write (a : Nat) (v : Byte) (h : Frame w s t) : Frame w s (memWrite a v t) := by
  apply h.congr <;> simp

theorem Frame.seq (n : Nat) (h : Frame w s t) : Frame w s (seq n t) := by
  apply h.congr <;> simp

theorem Frame.writePlace (x : Place) (v : Byte) (h : Frame w s t) : Frame w s (writePlace x v t) := by
  cases x with
  | reg r => exact .regs _ h
  | m => exact .write _ _ h

theorem Frame.writePair (x : Pair) (v : Word) (h : Frame w s t) : Frame w s (writePair x v t) := by
  cases x with
  | bc | de | hl => exact .regs _ h
  | sp => exact .sp _ h

theorem Frame.write16 (a v : Word) (h : Frame w s t) : Frame w s (write16 a v t) := .write _ _ (.write _ _ h)

theorem Frame.push16 (v : Word) (h : Frame w s t) : Frame w s (push16 v t) := .sp _ (.write _ _ (.write _ _ h))

theorem Frame.restart (n : BitVec 3) (h : Frame w s t) : Frame w s (restart n t) := .pc _ (.push16 _ h)

theorem Frame.setInte (b : Bool) : Frame .inteOnly s (s.setInte b) :=
  ⟨.refl _ _, nofun, fun _ => rfl, fun _ => rfl, fun _ => rfl⟩

theorem Frame.portOut {p v : Byte} (h : portOut p v s = some t) : Frame .devicesOnly s t := by
  unfold Machine.portOut at h
  split at h <;> cases h <;> exact ⟨.refl _ _, fun _ => rfl, nofun, nofun, nofun⟩

end

/-- What a meaning may answer: a next state within the frame of `w`, or no next state. -/
def AnswersFrame (w : Writes) (s : State) : Result → Prop
  | .next t => Frame w s t
  | .fault _ => True
  | .refused _ => True

section
variable {w : Writes} (s : State)

theorem moveByte_frame (x : Place) (y : Source) (n : Nat) : AnswersFrame w s (moveByte x y n s) :=
  Frame.seq n (.writePlace _ _ .refl)

theorem loadPair_frame (x : Pair) (v : Word) : AnswersFrame w s (loadPair x v s) := Frame.seq 3 (.writePair _ _ .refl)

theorem loadA_frame (a : Word) (n : Nat) : AnswersFrame w s (loadA a n s) := Frame.seq n (.setA _ .refl)

theorem storeA_frame (a : Word) (n : Nat) : AnswersFrame w s (storeA a n s) := Frame.seq n (.write _ _ .refl)

theorem popPair_frame (x : Pair) : AnswersFrame w s (popPair x s) := Frame.seq 1 (.writePair _ _ (.sp _ .refl))

theorem conditionalJump_frame (b : Bool) (a : Word) : AnswersFrame w s (conditionalJump b a s) := by
  cases b with
  | false => exact Frame.seq 3 .refl
  | true => exact Frame.pc a .refl

theorem conditionalCall_frame (b : Bool) (a : Word) : AnswersFrame w s (conditionalCall b a s) := by
  cases b with
  | false => exact Frame.seq 3 .refl
  | true => exact Frame.pc a (.push16 _ .refl)

theorem conditionalReturn_frame (b : Bool) : AnswersFrame w s (conditionalReturn b s) := by
  cases b with
  | false => exact Frame.seq 1 .refl
  | true => exact Frame.pc _ (.sp _ .refl)

theorem illegal_frame (op : Byte) : AnswersFrame w s (illegal op s) := Frame.refl.congr rfl rfl rfl rfl rfl

theorem execInp_frame (p : Byte) : AnswersFrame w s (execInp p s) := by
  unfold execInp
  split
  · exact Frame.seq 2 (.setA _ .refl)
  · trivial

theorem execOut_frame (p : Byte) : AnswersFrame .devicesOnly s (execOut p s) := by
  unfold execOut
  split
  · rename_i t ht
    exact Frame.seq 2 (.portOut ht)
  · trivial

theorem addToA_frame (x : Source) (b : Bool) (n : Nat) : AnswersFrame (.flagsOnly .all) s (addToA x b n s) :=
  Frame.seq n (.setFlags (.all _ _) (.setA _ .refl))

theorem subFromA_frame (x : Source) (b : Bool) (n : Nat) : AnswersFrame (.flagsOnly .all) s (subFromA x b n s) :=
  Frame.seq n (.setFlags (.all _ _) (.setA _ .refl))

theorem andA_frame (x : Source) (n : Nat) : AnswersFrame (.flagsOnly .all) s (andA x n s) :=
  Frame.seq n (.setFlags (.all _ _) (.setA _ .refl))

theorem xorA_frame (x : Source) (n : Nat) : AnswersFrame (.flagsOnly .all) s (xorA x n s) :=
  Frame.seq n (.setFlags (.all _ _) (.setA _ .refl))

theorem orA_frame (x : Source) (n : Nat) : AnswersFrame (.flagsOnly .all) s (orA x n s) :=
  Frame.seq n (.setFlags (.all _ _) (.setA _ .refl))

theorem compareA_frame (x : Source) (n : Nat) : AnswersFrame (.flagsOnly .all) s (compareA x n s) :=
  Frame.seq n (.setFlags (.all _ _) .refl)

theorem decimalAdjust_frame : AnswersFrame (.flagsOnly .all) s (decimalAdjust s) :=
  Frame.seq 1 (.setFlags (.all _ _) (.setA _ .refl))

theorem popFlagsAndA_frame : AnswersFrame (.flagsOnly .all) s (popFlagsAndA s) :=
  Frame.seq 1 (.setA _ (.setFlags (.all _ _) (.sp _ .refl)))

theorem increment_frame (x : Place) : AnswersFrame (.flagsOnly .allButCarry) s (increment x s) :=
  Frame.seq 1 (.setFlags (.allButCarry _ _) (.writePlace _ _ .refl))

theorem decrement_frame (x : Place) : AnswersFrame (.flagsOnly .allButCarry) s (decrement x s) :=
  Frame.seq 1 (.setFlags (.allButCarry _ _) (.writePlace _ _ .refl))

theorem addToHl_frame (x : Pair) : AnswersFrame (.flagsOnly .carry) s (addToHl x s) :=
  Frame.seq 1 (.setFlags (.carry _ _) (.writePair _ _ .refl))

theorem rotate_frame (a : Byte) (b : Bool) : AnswersFrame (.flagsOnly .carry) s (rotate a b s) :=
  Frame.seq 1 (.setFlags (.carry _ _) (.setA _ .refl))

end

/-- EI and DI are the instructions that write INTE (R33). -/
def writesInte : Instr → Bool
  | .ei | .di => true
  | _ => false

/-- OUT is the instruction that writes the output devices (R35, R36, R39). -/
def writesDevices : Instr → Bool
  | .out _ => true
  | _ => false

theorem writesInte_eq_false {i : Instr} (hei : i ≠ .ei) (hdi : i ≠ .di) : writesInte i = false := by
  unfold writesInte
  split
  · exact absurd rfl hei
  · exact absurd rfl hdi
  · rfl

theorem writesDevices_eq_false {i : Instr} (h : ∀ p, i ≠ .out p) : writesDevices i = false := by
  unfold writesDevices
  split
  · exact absurd rfl (h _)
  · rfl

/-- What the instruction may write: the flags of its row of R32, INTE, the output devices. -/
def writesOf (i : Instr) : Writes := ⟨flagsWritten (opcodeOf i).toNat, writesInte i, writesDevices i⟩

/-- Where an operand byte follows the opcode, the row of R32 is read off the opcode byte named. -/
theorem AnswersFrame.of_opcode (op : Byte) {i : Instr} {s : State} {r : Result} (hop : opcodeOf i = op)
    (h : AnswersFrame ⟨flagsWritten op.toNat, writesInte i, writesDevices i⟩ s r) : AnswersFrame (writesOf i) s r := by
  subst hop
  exact h

/-- Every instruction stays within its frame: by the shared operation that its meaning is, and by its row of R32. -/
theorem exec_frame (i : Instr) (s : State) : AnswersFrame (writesOf i) s (exec i s) := by
  cases i
  case addB | addC | addD | addE | addH | addL | addM | addA | adcB | adcC | adcD | adcE | adcH | adcL | adcM | adcA =>
    exact addToA_frame s _ _ _
  case subB | subC | subD | subE | subH | subL | subM | subA | sbbB | sbbC | sbbD | sbbE | sbbH | sbbL | sbbM | sbbA =>
    exact subFromA_frame s _ _ _
  case anaB | anaC | anaD | anaE | anaH | anaL | anaM | anaA => exact andA_frame s _ _
  case xraB | xraC | xraD | xraE | xraH | xraL | xraM | xraA => exact xorA_frame s _ _
  case oraB | oraC | oraD | oraE | oraH | oraL | oraM | oraA => exact orA_frame s _ _
  case cmpB | cmpC | cmpD | cmpE | cmpH | cmpL | cmpM | cmpA => exact compareA_frame s _ _
  case daa => exact decimalAdjust_frame s
  case popPsw => exact popFlagsAndA_frame s
  case inrB | inrC | inrD | inrE | inrH | inrL | inrM | inrA => exact increment_frame s _
  case dcrB | dcrC | dcrD | dcrE | dcrH | dcrL | dcrM | dcrA => exact decrement_frame s _
  case dadB | dadD | dadH | dadSp => exact addToHl_frame s _
  case rlc | rrc | ral | rar => exact rotate_frame s _ _
  case stc | cmc => exact Frame.seq 1 (.setFlags (.carry _ _) .refl)
  case ei | di => exact Frame.seq 1 (.setInte _)
  case adi => exact .of_opcode 0xC6 rfl (addToA_frame s _ _ _)
  case aci => exact .of_opcode 0xCE rfl (addToA_frame s _ _ _)
  case sui => exact .of_opcode 0xD6 rfl (subFromA_frame s _ _ _)
  case sbi => exact .of_opcode 0xDE rfl (subFromA_frame s _ _ _)
  case ani => exact .of_opcode 0xE6 rfl (andA_frame s _ _)
  case xri => exact .of_opcode 0xEE rfl (xorA_frame s _ _)
  case ori => exact .of_opcode 0xF6 rfl (orA_frame s _ _)
  case cpi => exact .of_opcode 0xFE rfl (compareA_frame s _ _)
  case out => exact .of_opcode 0xD3 rfl (execOut_frame s _)
  case inp => exact execInp_frame s _
  case mviB | mviC | mviD | mviE | mviH | mviL | mviM | mviA | movBB | movBC | movBD | movBE | movBH | movBL | movBM
      | movBA | movCB | movCC | movCD | movCE | movCH | movCL | movCM | movCA | movDB | movDC | movDD | movDE | movDH
      | movDL | movDM | movDA | movEB | movEC | movED | movEE | movEH | movEL | movEM | movEA | movHB | movHC | movHD
      | movHE | movHH | movHL | movHM | movHA | movLB | movLC | movLD | movLE | movLH | movLL | movLM | movLA | movMB
      | movMC | movMD | movME | movMH | movML | movMA | movAB | movAC | movAD | movAE | movAH | movAL | movAM | movAA =>
    exact moveByte_frame s _ _ _
  case lxiB | lxiD | lxiH | lxiSp => exact loadPair_frame s _ _
  case ldaxB | ldaxD | lda => exact loadA_frame s _ _
  case staxB | staxD | sta => exact storeA_frame s _ _
  case popB | popD | popH => exact popPair_frame s _
  case inxB | inxD | inxH | inxSp | dcxB | dcxD | dcxH | dcxSp | lhld => exact Frame.seq _ (.writePair _ _ .refl)
  case shld => exact Frame.seq _ (.write16 _ _ .refl)
  case xthl => exact Frame.seq _ (.writePair _ _ (.write16 _ _ .refl))
  case xchg => exact Frame.seq _ (.writePair _ _ (.writePair _ _ .refl))
  case pushB | pushD | pushH | pushPsw => exact Frame.seq _ (.push16 _ .refl)
  case sphl => exact Frame.seq _ (.sp _ .refl)
  case cma => exact Frame.seq _ (.setA _ .refl)
  case hlt => exact Frame.seq _ (.halt .refl)
  case nop => exact Frame.seq _ .refl
  case pchl => exact Frame.pc _ .refl
  case jnz | jmp | jz | jnc | jc | jpo | jpe | jp | jm => exact conditionalJump_frame s _ _
  case cnz | cz | call | cnc | cc | cpo | cpe | cp | cm => exact conditionalCall_frame s _ _
  case rnz | rz | ret | rnc | rc | rpo | rpe | rp | rm => exact conditionalReturn_frame s _
  case rst0 | rst1 | rst2 | rst3 | rst4 | rst5 | rst6 | rst7 => exact Frame.restart _ .refl
  case illegal08 | illegal10 | illegal18 | illegal20 | illegal28 | illegal30 | illegal38 | illegalcb | illegald9
      | illegaldd | illegaled | illegalfd => exact illegal_frame s _

theorem exec_next_frame {i : Instr} {s t : State} (h : exec i s = .next t) : Frame (writesOf i) s t := by
  have := exec_frame i s
  rwa [h] at this

end Sys2Proof.Machine

namespace Sys2Proof.Claims
open Sys2Proof.Machine

/-- Settles O43: the flags an instruction may write are in its frame, which `exec_frame` gives. -/
theorem onlyTheListedInstructionsWriteFlags : Obligations.OnlyTheListedInstructionsWriteFlags := by
  unfold Obligations.OnlyTheListedInstructionsWriteFlags
  intro i s t h
  obtain ⟨hs, hz, hac, hp, hcy⟩ := (exec_next_frame h).flags
  exact ⟨hs, hz, hac, hp, hcy⟩

/-- Settles O45: INTE and the output devices by the frame, the rest by what every chain of moves keeps. -/
theorem processorStatusWriters : Obligations.ProcessorStatusWriters := by
  unfold Obligations.ProcessorStatusWriters
  intro i s t h
  have hf : Frame (writesOf i) s t := exec_next_frame h
  have hm : Moves s t := exec_next_moves h
  have hdevices : (∀ p, i ≠ .out p) → t.sr = s.sr ∧ t.soff = s.soff ∧ t.outLatch = s.outLatch := by
    intro hout
    have hw := writesDevices_eq_false hout
    exact ⟨hf.sr hw, hf.soff hw, hf.outLatch hw⟩
  exact ⟨fun hei hdi => hf.inte (writesInte_eq_false hei hdi), hdevices, hm.halted, hm.inLatch, hm.cyc, hm.cfg⟩

end Sys2Proof.Claims
end

section
namespace Sys2Proof.Machine

/-! ### The ROM in arcade mode (R55, R65, R76) -/

/-- The parameters and, in arcade mode, the ROM bytes are kept: it chains because MODE decides the next protection. -/
def RomGuarded (s t : State) : Prop := t.cfg = s.cfg ∧ RomKept s t

theorem RomGuarded.refl (s : State) : RomGuarded s s := ⟨rfl, fun _ _ _ => rfl⟩

theorem RomGuarded.trans {s t u : State} (h : RomGuarded s t) (k : RomGuarded t u) : RomGuarded s u := by
  obtain ⟨hcfg, hrom⟩ := h
  obtain ⟨kcfg, krom⟩ := k
  refine ⟨kcfg.trans hcfg, fun hs a ha => ?_⟩
  have ht : t.cfg.mode = .arcade := hcfg ▸ hs
  exact (krom ht a ha).trans (hrom hs a ha)

theorem eventAct_romGuarded {e : Event} {s t : State} (h : eventAct e s = .next t) : RomGuarded s t := by
  obtain ⟨u, b, n, v, hu, rfl⟩ := eventAct_moves h
  exact ⟨hu.cfg, fun hs _ ha => hu.rom hs ha⟩

end Sys2Proof.Machine

namespace Sys2Proof.Claims
open Sys2Proof.Machine

/-- Settles O50: no event changes the parameters or, in arcade mode, a ROM byte (`eventAct_romGuarded`), so no run does. -/
theorem runsNeverChangeTheRom : Obligations.RunsNeverChangeTheRom := by
  unfold Obligations.RunsNeverChangeTheRom
  intro es s t h
  exact (runEvents_induction (R := RomGuarded) RomGuarded.refl RomGuarded.trans eventAct_romGuarded h).2

end Sys2Proof.Claims
end

section
namespace Sys2Proof

/-! ### A step reads the instruction whose encoding stands at PC (R59, R81) -/

/-- The number of bytes of an encoding is the length of the instruction's format (R84). -/
theorem encode_length (i : Instr) : (encode i).length = i.length := by
  cases i <;> rfl

theorem Instr.length_le_three (i : Instr) : i.length ≤ 3 := by
  unfold Instr.length
  split <;> decide

/-- The decoder reads back what the encoder writes, whatever follows: by the format of each opcode's entry (R83, R84). -/
theorem decode_encode_append (i : Instr) (rest : List Byte) : decode (encode i ++ rest) = .ok (i, rest) := by
  cases i
  case mviB d | mviC d | mviD d | mviE d | mviH d | mviL d | mviM d | mviA d | adi d | aci d | out d | sui d | inp d
      | sbi d | ani d | xri d | ori d | cpi d =>
    exact decode_f2 d rest rfl
  case lxiB w | lxiD w | lxiH w | lxiSp w | shld w | lhld w | sta w | lda w | jnz w | jmp w | cnz w | jz w | cz w
      | call w | jnc w | cnc w | jc w | cc w | jpo w | cpo w | jpe w | cpe w | jp w | cp w | jm w | cm w =>
    exact decode_f3 w rest rfl
  all_goals exact decode_f1 rest rfl

end Sys2Proof

namespace Sys2Proof.Machine

/-- Bytes that stand in memory from `a` on are the first that are read from `a` on. -/
theorem bytesFrom_of_read (m : Memory) (bytes : List Byte) (n a : Nat) (hn : bytes.length ≤ n)
    (ha : a + bytes.length ≤ memSize) (h : ∀ k, k < bytes.length → m.read (a + k) = bytes.getD k 0) :
    bytesFrom m n a = bytes ++ bytesFrom m (n - bytes.length) (a + bytes.length) := by
  induction bytes generalizing n a with
  | nil => rfl
  | cons v bytes ih =>
    rw [List.length_cons] at hn ha h
    obtain ⟨n, rfl⟩ : ∃ k, n = k + 1 := ⟨n - 1, by omega⟩
    have hhead : m.read a = v := h 0 (by omega)
    have htail : ∀ k, k < bytes.length → m.read (a + 1 + k) = bytes.getD k 0 := by
      intro k hk
      rw [Nat.add_right_comm, Nat.add_assoc]
      exact h (k + 1) (by omega)
    rw [bytesFrom, if_pos (by omega), hhead, ih n (a + 1) (by omega) (by omega) htail, List.length_cons,
      List.cons_append, Nat.add_sub_add_right, Nat.add_right_comm, Nat.add_assoc]

/-- The fetch reads the instruction whose encoding stands in memory at PC. -/
theorem fetchInstr_of_encoding (s : State) (i : Instr) (hfit : i.wellFormedAt s.pc = true)
    (h : ∀ k, k < i.length → s.mem.read (s.pc.toNat + k) = (encode i).getD k 0) :
    ∃ rest, fetchInstr s = .ok (i, rest) := by
  have hlen : (encode i).length = i.length := encode_length i
  have htop : s.pc.toNat + i.length ≤ memSize := of_decide_eq_true hfit
  have hbytes := bytesFrom_of_read s.mem (encode i) 3 s.pc.toNat (hlen ▸ i.length_le_three) (hlen ▸ htop) (hlen ▸ h)
  unfold fetchInstr fetchBytes
  rw [hbytes]
  exact ⟨_, decode_encode_append i _⟩

/-- A step of a state that is not halted executes the instruction it fetches and accounts for it (R81, R82). -/
theorem step_of_fetch {s : State} {i : Instr} {rest : List Byte} (hs : s.halted = false)
    (hi : fetchInstr s = .ok (i, rest)) : step s = accountResult i (exec i s) := by
  unfold step
  rw [hs, hi]
  rfl

end Sys2Proof.Machine

namespace Sys2Proof.Claims
open Sys2Proof.Machine

/-- Settles O6: the bytes at PC are fetched, and the decoder reads them back as `i`. -/
theorem stepRunsTheEncodingInMemory : Obligations.StepRunsTheEncodingInMemory := by
  unfold Obligations.StepRunsTheEncodingInMemory
  intro s i hs hfit h
  obtain ⟨rest, hi⟩ := fetchInstr_of_encoding s i hfit h
  exact step_of_fetch hs hi

end Sys2Proof.Claims
end

section
namespace Sys2Proof.Machine

/-! ### The sequential advance, the output ports and the shift device (R66 to R70, R88) -/

/-- The model's advance is the one the statements name. -/
theorem seq_eq_advanced (n : Nat) (s : State) : seq n s = Claims.advanced n s := by
  have hpc : BitVec.ofNat 16 (s.pc.toNat + n) = s.pc + BitVec.ofNat 16 n := by
    rw [BitVec.ofNat_add, BitVec.ofNat_toNat, BitVec.setWidth_eq]
  rw [seq_eq, hpc]
  unfold Claims.advanced seqReports
  by_cases h : s.pc.toNat + n < 65536
  · simp [memSize, h, Nat.not_le.mpr h]
  · simp [memSize, h, Nat.not_lt.mp h]

section
variable {p : Byte} (v : Byte) (s : State)

theorem portOut_latch (h : p.toNat < 7) (h2 : p.toNat ≠ 2) (h4 : p.toNat ≠ 4) :
    portOut p v s = some (s.setOutLatch (s.outLatch.set p.toNat v)) := by
  unfold portOut
  generalize p.toNat = q at h h2 h4 ⊢
  match q with
  | 0 | 1 | 3 | 5 | 6 => rfl
  | 2 => exact absurd rfl h2
  | 4 => exact absurd rfl h4

theorem portOut_offset (h : p.toNat = 2) : portOut p v s = some (s.setSoff (v.setWidth 3)) := by
  unfold portOut
  rw [h]
  rfl

theorem portOut_load (h : p.toNat = 4) : portOut p v s = some (s.setSr (shiftLoad v s.sr)) := by
  unfold portOut
  rw [h]
  rfl

theorem portOut_none (h : 7 ≤ p.toNat) : portOut p v s = none := by
  unfold portOut
  split
  case h_8 => rfl
  all_goals omega

end

/-- The offset is the byte modulo 8 (R69). -/
theorem setWidth_three_eq (v : Byte) : v.setWidth 3 = BitVec.ofNat 3 (v.toNat % 8) := by
  apply BitVec.eq_of_toNat_eq
  simp

/-- A load moves the high byte down and puts the new byte above it (R68). -/
theorem shiftLoad_toNat (v : Byte) (sr : Word) : (shiftLoad v sr).toNat = sr.toNat / 256 + 256 * v.toNat := by
  have hlow : sr.toNat / 256 < 2 ^ 8 := by have := sr.isLt; omega
  have hv := v.isLt
  have hhigh : (v.setWidth 16 <<< 8).toNat = v.toNat <<< 8 := by
    simp [Nat.shiftLeft_eq]
    omega
  rw [shiftLoad, BitVec.toNat_or, BitVec.toNat_ushiftRight, Nat.shiftRight_eq_div_pow, hhigh, Nat.or_comm,
    ← Nat.shiftLeft_add_eq_or_of_lt hlow, Nat.shiftLeft_eq]
  omega

/-- Two loads fill the register, whatever it held. -/
theorem shiftLoad_shiftLoad_toNat (x y : Byte) (sr : Word) :
    (shiftLoad y (shiftLoad x sr)).toNat = 256 * y.toNat + x.toNat := by
  have := sr.isLt
  rw [shiftLoad_toNat, shiftLoad_toNat]
  omega

theorem shiftRead_of_low {s : State} (h : s.cfg.shiftReadMode = .low) :
    shiftRead s = BitVec.ofNat 8 (s.sr.toNat / 2 ^ (8 - s.soff.toNat)) := by
  rw [shiftRead_eq, h]

theorem exec_out_of_portOut {p : Byte} {s t : State} (h : portOut p s.regs.a s = some t) :
    exec (.out p) s = .next (seq 2 t) := by
  change execOut p s = _
  rw [execOut, h]

theorem exec_out_refused {p : Byte} {s : State} (h : portOut p s.regs.a s = none) :
    exec (.out p) s = .refused (.outPortWithoutLatch p) := by
  change execOut p s = _
  rw [execOut, h]

theorem exec_inp_of_portIn {p v : Byte} {s : State} (h : portIn p s = some v) :
    exec (.inp p) s = .next (seq 2 (s.setA v)) := by
  change execInp p s = _
  rw [execInp, h]

theorem exec_mviA (v : Byte) (s : State) : exec (.mviA v) s = .next (seq 2 (s.setA v)) := rfl

end Sys2Proof.Machine

namespace Sys2Proof.Claims
open Sys2Proof.Machine

/-- Settles O41: each range of ports by its own equation of `portOut`. -/
theorem outWritesLatchesAndShiftDevice : Obligations.OutWritesLatchesAndShiftDevice := by
  unfold Obligations.OutWritesLatchesAndShiftDevice
  intro p s
  simp only [← seq_eq_advanced]
  refine ⟨rfl, fun h h2 h4 => ?latch, fun h => ?offset, fun h => ?load, fun h => ?refused⟩
  case latch => exact exec_out_of_portOut (portOut_latch _ s h h2 h4)
  case offset =>
    rw [← setWidth_three_eq]
    exact exec_out_of_portOut (portOut_offset _ s h)
  case load =>
    rw [← shiftLoad_toNat, BitVec.ofNat_toNat, BitVec.setWidth_eq]
    exact exec_out_of_portOut (portOut_load _ s h)
  case refused => exact exec_out_refused (portOut_none _ s h)

/-- Settles O42: the two loads fill SR, the offset is k mod 8, and IN 3 reads the window of that SR at that offset. -/
theorem shiftDeviceReadsAWindow : Obligations.ShiftDeviceReadsAWindow := by
  unfold Obligations.ShiftDeviceReadsAWindow
  intro x y k s hlow
  refine ⟨_, _, _, _, _, _, _, exec_mviA x s, exec_out_of_portOut (portOut_load _ _ rfl), exec_mviA y _,
    exec_out_of_portOut (portOut_load _ _ rfl), exec_mviA k _, exec_out_of_portOut (portOut_offset _ _ rfl),
    exec_inp_of_portIn rfl, ?_⟩
  rw [seq_regs, State.setA_regs, shiftRead_of_low (by simpa using hlow)]
  simp [shiftLoad_shiftLoad_toNat]

end Sys2Proof.Claims
end

section
namespace Sys2Proof.Machine

/-! ### The write policy in the terms of the statements (R54 to R56) -/

theorem wrapAddr_eq_target (a : Nat) : wrapAddr a = Claims.target a := by
  unfold wrapAddr Claims.target
  rw [Nat.add_comm (a % romSize)]
  rfl

theorem protectedAddr_wrapAddr (a : Nat) (s : State) : protectedAddr (wrapAddr a) s = Claims.blocked s a := by
  rw [wrapAddr_eq_target]
  rfl

/-- A suppressed write only reports and, in strict mode, halts. -/
theorem memWrite_of_blocked {a : Nat} {s : State} (v : Byte) (h : Claims.blocked s a = true) :
    memWrite a v s =
      { s with
        diag := s.diag ++ [.illegalWrite (BitVec.ofNat 16 (Claims.target a)) v s.pc]
        halted := s.halted || s.cfg.strictIllegalWrite } := by
  rw [memWrite_eq, writtenMem, writeReports, protectedAddr_wrapAddr, h, wrapAddr_eq_target]
  rfl

/-- A write that is not suppressed stores its byte. -/
theorem memWrite_of_not_blocked {a : Nat} {s : State} (v : Byte) (h : Claims.blocked s a = false) :
    memWrite a v s = s.setMem (s.mem.write (Claims.target a) v) := by
  unfold memWrite
  rw [protectedAddr_wrapAddr, h, wrapAddr_eq_target]
  rfl

theorem blocked_of_test {s : State} (a : Nat) (h : s.cfg.mode = .test) : Claims.blocked s a = false := by
  rw [Claims.blocked, h]
  rfl

end Sys2Proof.Machine

namespace Sys2Proof.Claims
open Sys2Proof.Machine

theorem target_of_ge {a : Nat} (h : 65536 ≤ a) : 8192 ≤ target a ∧ target a < 16384 := by
  unfold target
  rw [if_neg (Nat.not_lt.mpr h)]
  omega

/-- Settles O46: the wrapped address is the one of R54; a write is either suppressed or stores its byte. -/
theorem writePolicy : Obligations.WritePolicy := by
  unfold Obligations.WritePolicy
  refine ⟨fun a => ⟨wrapAddr_eq_target a, target_of_ge⟩, fun a v s => ⟨memWrite_of_blocked v, fun h => ?stored,
    blocked_of_test a⟩⟩
  exact ⟨_, memWrite_of_not_blocked v h, fun b => Memory.read_write _ _ b v⟩

end Sys2Proof.Claims
end

section
namespace Sys2Proof

/-! ### The decoder and the encoder by the entry of the opcode byte (R83, R84, R93) -/

/-- The length that an entry's format gives (R84). -/
def OpEntry.length : OpEntry → Nat
  | .f1 _ => 1
  | .f2 _ => 2
  | .f3 _ => 3

/-- The operand bytes of an entry's format in stored order, the operand given as a word of which F2 takes the low byte. -/
def OpEntry.operands : OpEntry → Word → List Byte
  | .f1 _, _ => []
  | .f2 _, w => [Machine.loByte w]
  | .f3 _, w => [Machine.loByte w, Machine.hiByte w]

/-- The instruction of an entry with the operand that `OpEntry.operands` lists. -/
def OpEntry.instr : OpEntry → Word → Instr
  | .f1 i, _ => i
  | .f2 make, w => make (Machine.loByte w)
  | .f3 make, w => make w

theorem OpEntry.length_operands (e : OpEntry) (w : Word) : (e.operands w).length + 1 = e.length := by
  cases e <;> rfl

/-- The encoding of a decoded instruction is its opcode byte and the operand bytes of its entry: the rows of R91 agree with
the "Encoding:" lines. -/
theorem encode_instr_opEntry (op : Byte) (w : Word) :
    encode ((opEntry op).instr w) = op :: (opEntry op).operands w := by
  obtain ⟨n, hn⟩ := op
  interval_cases n <;> exact rfl

/-- The opcode byte alone fixes the length of an instruction (R93). -/
theorem Instr.length_eq_opcodeLength (i : Instr) : i.length = Claims.opcodeLength (opcodeOf i) := by
  cases i <;> rfl

theorem length_instr_opEntry (op : Byte) (w : Word) : ((opEntry op).instr w).length = (opEntry op).length := by
  rw [← encode_length, encode_instr_opEntry, List.length_cons, OpEntry.length_operands]

/-- The length of an entry's format is the one the statements list by opcode byte. -/
theorem length_opEntry (op : Byte) : (opEntry op).length = Claims.opcodeLength op := by
  rw [← length_instr_opEntry op 0, Instr.length_eq_opcodeLength, opcodeOf, encode_instr_opEntry, List.headD_cons]

/-- What the decoder can answer for bytes with a first one: too few bytes for the format, or the instruction of the entry with
an operand whose bytes come next. -/
theorem decode_cons_cases (op : Byte) (rest : List Byte) :
    (rest.length + 1 < (opEntry op).length ∧ decode (op :: rest) = .error (.truncated op)) ∨
      ∃ w tail, rest = (opEntry op).operands w ++ tail ∧ decode (op :: rest) = .ok ((opEntry op).instr w, tail) := by
  cases h : opEntry op with
  | f1 i => exact .inr ⟨0, rest, rfl, decode_f1 rest h⟩
  | f2 make =>
    match rest with
    | [] => exact .inl ⟨by simp [OpEntry.length], by simp only [decode, h]⟩
    | d :: tail =>
      refine .inr ⟨Machine.joinBytes 0 d, tail, ?_, ?_⟩
      · simp [OpEntry.operands]
      · simpa [OpEntry.instr] using decode_f2 d tail h
  | f3 make =>
    match rest with
    | [] => exact .inl ⟨by simp [OpEntry.length], by simp only [decode, h]⟩
    | [_] => exact .inl ⟨by simp [OpEntry.length], by simp only [decode, h]⟩
    | lo :: hi :: tail =>
      refine .inr ⟨Machine.joinBytes hi lo, tail, ?_, ?_⟩
      · simp [OpEntry.operands]
      · simpa [OpEntry.instr] using decode_f3 (Machine.joinBytes hi lo) tail h

/-- What is decoded is the encoding of the instruction, followed by the rest. -/
theorem encode_append_of_decode {bs rest : List Byte} {i : Instr} (h : decode bs = .ok (i, rest)) :
    encode i ++ rest = bs := by
  cases bs with
  | nil => cases h
  | cons op bs =>
    obtain ⟨-, he⟩ | ⟨w, tail, rfl, he⟩ := decode_cons_cases op bs
    · cases he.symm.trans h
    · cases he.symm.trans h
      rw [encode_instr_opEntry, List.cons_append]

end Sys2Proof

namespace Sys2Proof.Claims
open Sys2Proof.Machine

/-- Settles O1: by `decode_encode_append`, a case per format of the instruction. -/
theorem decodeInvertsEncode : Obligations.DecodeInvertsEncode := by
  unfold Obligations.DecodeInvertsEncode
  exact decode_encode_append

/-- Settles O2: by `encode_append_of_decode`, from the entry of the opcode byte. -/
theorem encodeInvertsDecode : Obligations.EncodeInvertsDecode := by
  unfold Obligations.EncodeInvertsDecode
  intro bs i rest h
  exact encode_append_of_decode h

/-- Settles O3: the two answers of `decode_cons_cases` are the two clauses, and the number of bytes tells them apart. -/
theorem lengthIsAFunctionOfTheOpcode : Obligations.LengthIsAFunctionOfTheOpcode := by
  unfold Obligations.LengthIsAFunctionOfTheOpcode
  intro op rest
  rw [← length_opEntry]
  obtain ⟨hshort, he⟩ | ⟨w, tail, rfl, he⟩ := decode_cons_cases op rest
  · exact ⟨fun _ => he, fun hlong => absurd hshort (Nat.not_lt.mpr hlong)⟩
  · have hlen : ((opEntry op).operands w).length + 1 = (opEntry op).length := OpEntry.length_operands _ w
    refine ⟨fun hshort => ?_, fun _ => ⟨(opEntry op).instr w, ?_, length_instr_opEntry op w⟩⟩
    · rw [List.length_append] at hshort
      omega
    · rw [he, ← hlen, List.drop_succ_cons, List.drop_left]

/-- Settles O4: each sequence is the encoding of its instruction, which the decoder reads back. -/
theorem knownWordsDecode : Obligations.KnownWordsDecode := by
  unfold Obligations.KnownWordsDecode
  exact ⟨decode_encode_append (.lxiH 0x1234) [], decode_encode_append .movCB [], decode_encode_append (.mviM 0xAA) [],
    decode_encode_append .adcM [], decode_encode_append (.ori 0x0F) [], decode_encode_append .ral [],
    decode_encode_append (.jc 0x0010) [], decode_encode_append (.call 0x0300) [], decode_encode_append .rst1 [],
    decode_encode_append .pushPsw [], decode_encode_append .hlt [], decode_encode_append (.inp 0x03) []⟩

end Sys2Proof.Claims
end

section
namespace Sys2Proof.Machine

/-! ### Disassembly at an offset (R96) -/

/-- The line of the instruction whose encoding stands in the buffer at the offset. -/
theorem disassemble_of_encoding (before rest : List Byte) (i : Instr) :
    disassemble (before ++ encode i ++ rest) before.length =
      .ok ⟨mnemonicOf (opcodeOf i), if isIllegal (opcodeOf i) then none else some i.length,
        Config.disasmFormat ⟨before.length, opcodeOf i, mnemonicOf (opcodeOf i), (encode i).tail.reverse⟩⟩ := by
  have hread : decode ((before ++ encode i ++ rest).drop before.length) = .ok (i, rest) := by
    rw [List.append_assoc, List.drop_left, decode_encode_append]
  unfold disassemble
  rw [hread]

end Sys2Proof.Machine

namespace Sys2Proof.Claims
open Sys2Proof.Machine

/-- Settles O60: the example of R96 is the general line at offset 0, with nothing before or after LXI H. -/
theorem disassemblyListsOperandBytesHighToLow : Obligations.DisassemblyListsOperandBytesHighToLow := by
  unfold Obligations.DisassemblyListsOperandBytesHighToLow
  exact ⟨disassemble_of_encoding, disassemble_of_encoding [] [] (.lxiH 0x1234)⟩

end Sys2Proof.Claims
end

section
namespace Sys2Proof.Machine

/-! ### Which steps fault (R15, R80) -/

theorem step_of_halted {s : State} (hs : s.halted = true) : step s = .fault .halted := by
  unfold step
  rw [hs]
  rfl

/-- Where the bytes from PC on hold no whole instruction, the step reports the overflow of R87. -/
theorem step_of_fetch_error {s : State} {e : DecodeError} (hs : s.halted = false) (he : fetchInstr s = .error e) :
    step s = .next (straddleOverflow s) := by
  unfold step
  rw [hs, he]
  rfl

theorem accountResult_ne_fault {x : Result} (i : Instr) (hx : ∀ f, x ≠ .fault f) (f : Fault) :
    accountResult i x ≠ .fault f := by
  cases x with
  | next t => exact nofun
  | fault g => exact absurd rfl (hx g)
  | refused r => exact nofun

end Sys2Proof.Machine

namespace Sys2Proof.Claims
open Sys2Proof.Machine

/-- Settles O8: a state that is not halted overflows or executes an instruction, and no instruction faults. -/
theorem haltedStateHasNoStep : Obligations.HaltedStateHasNoStep := by
  unfold Obligations.HaltedStateHasNoStep
  intro s
  refine ⟨step_of_halted, fun hs f => ?_⟩
  cases h : fetchInstr s with
  | error e =>
    rw [step_of_fetch_error hs h]
    exact nofun
  | ok p =>
    rw [step_of_fetch hs h]
    exact accountResult_ne_fault p.1 (exec_no_fault p.1 s) f

end Sys2Proof.Claims
end

section
namespace Sys2Proof.Machine

/-! ### Registers, operands and pairs in the terms of the statements (R20 to R26, R124) -/

section
variable (s : State)

theorem get_eq_regOf (x : Reg) : s.regs.get x = Claims.regOf s x := by
  cases x <;> rfl

theorem setRegs_set_eq_putReg (x : Reg) (v : Byte) : s.setRegs (s.regs.set x v) = Claims.putReg s x v := by
  cases x <;> rfl

theorem memRead_hl : memRead (hl s) s = Claims.byteAtHl s := by
  rw [memRead, hl, joinBytes_toNat, Claims.byteAtHl]

theorem readSource_eq_operandOf (y : Source) : readSource y s = Claims.operandOf s y := by
  cases y with
  | reg x => exact get_eq_regOf s x
  | m => exact memRead_hl s
  | imm v => rfl

theorem hiByte_eq_ofNat (v : Word) : hiByte v = BitVec.ofNat 8 (v.toNat / 256) := by
  rw [← hiByte_toNat, BitVec.ofNat_toNat, BitVec.setWidth_eq]

theorem loByte_eq_ofNat (v : Word) : loByte v = BitVec.ofNat 8 v.toNat := by
  apply BitVec.eq_of_toNat_eq
  rw [loByte_toNat, BitVec.toNat_ofNat]

theorem writePair_eq_putPair (x : Pair) (v : Word) : writePair x v s = Claims.putPair s x v := by
  cases x <;> simp only [writePair, Claims.putPair, hiByte_eq_ofNat, loByte_eq_ofNat] <;> rfl

theorem writePair_hl_joinBytes (h l : Byte) :
    writePair .hl (joinBytes h l) s = s.setRegs { s.regs with h := h, l := l } := by
  rw [writePair, hiByte_joinBytes, loByte_joinBytes]

theorem writePair_de_joinBytes (d e : Byte) :
    writePair .de (joinBytes d e) s = s.setRegs { s.regs with d := d, e := e } := by
  rw [writePair, hiByte_joinBytes, loByte_joinBytes]

end

/-! ### Writes made in order, under the write policy (R54 to R57, R61) -/

section
variable (s : State) (ws : List (Nat × Byte)) (w : Nat × Byte)

/-- `s` after the model's write of each (address, byte) of the list, in order. -/
def writeAll : State := ws.foldl (fun t w => memWrite w.1 w.2 t) s

theorem writeAll_append_singleton : writeAll s (ws ++ [w]) = memWrite w.1 w.2 (writeAll s ws) := List.foldl_append

theorem contentsAfter_append_singleton (b : Nat) :
    Claims.contentsAfter s (ws ++ [w]) b =
      if Claims.target w.1 = b ∧ Claims.blocked s w.1 = false then w.2 else Claims.contentsAfter s ws b := List.foldl_append

theorem reportsOf_append_singleton :
    Claims.reportsOf s (ws ++ [w]) = Claims.reportsOf s ws ++
      if Claims.blocked s w.1 = true then [.illegalWrite (BitVec.ofNat 16 (Claims.target w.1)) w.2 s.pc] else [] := by
  rw [Claims.reportsOf, List.filter_append, List.map_append, List.filter_singleton]
  cases Claims.blocked s w.1 <;> rfl

theorem written_nil : Claims.written s [] s.mem = s := by
  simp [Claims.written, Claims.reportsOf]

/-- One more write after the writes `ws`: PC and the parameters are still those of `s`, so the write is suppressed and
reported as it would be from `s`. -/
theorem memWrite_written (m : Memory) :
    memWrite w.1 w.2 (Claims.written s ws m) =
      Claims.written s (ws ++ [w]) (writtenMem w.1 w.2 (Claims.written s ws m)) := by
  have hblocked : Claims.blocked (Claims.written s ws m) w.1 = Claims.blocked s w.1 := rfl
  rw [memWrite_eq, writeReports, protectedAddr_wrapAddr, hblocked, wrapAddr_eq_target]
  simp [Claims.written, reportsOf_append_singleton, Bool.and_or_distrib_left, Bool.or_assoc, Bool.and_comm]

/-- Writes made in order leave the state the statements name, with the contents they name at every address. -/
theorem writeAll_eq_written :
    ∃ m : Memory, (∀ b, m.read b = Claims.contentsAfter s ws b) ∧ writeAll s ws = Claims.written s ws m := by
  induction ws using List.reverseRecOn with
  | nil => exact ⟨s.mem, fun _ => rfl, (written_nil s).symm⟩
  | append_singleton ws w ih =>
    obtain ⟨m, hread, hstate⟩ := ih
    refine ⟨writtenMem w.1 w.2 (Claims.written s ws m), fun b => ?contents, ?state⟩
    case contents =>
      rw [writtenMem_read, protectedAddr_wrapAddr, wrapAddr_eq_target, contentsAfter_append_singleton, ← hread]
      rfl
    case state => rw [writeAll_append_singleton, hstate, memWrite_written]

theorem write16_joinBytes (a : Word) (h l : Byte) :
    write16 a (joinBytes h l) s = writeAll s [(a.toNat, l), (Claims.secondAddr s a, h)] := by
  rw [write16, hiByte_joinBytes, loByte_joinBytes]
  rfl

end

end Sys2Proof.Machine

namespace Sys2Proof.Claims
open Sys2Proof.Machine

/-- An instruction that makes its writes in order and then does `rest` stores as the statements say. -/
theorem stores_of_exec {i : Instr} {s : State} {ws : List (Nat × Byte)} {rest : State → State}
    (h : exec i s = .next (rest (writeAll s ws))) : Stores i s ws rest := by
  obtain ⟨m, hread, hstate⟩ := writeAll_eq_written s ws
  exact ⟨m, hread, by rw [h, hstate]⟩

end Sys2Proof.Claims
end

section
namespace Sys2Proof.Machine

/-! ### The shapes of data transfer (R100 to R110) -/

theorem moveByte_reg (x : Reg) (y : Source) (n : Nat) (s : State) :
    moveByte (.reg x) y n s = .next (Claims.advanced n (Claims.putReg s x (Claims.operandOf s y))) := by
  rw [moveByte, seq_eq_advanced, writePlace, setRegs_set_eq_putReg, readSource_eq_operandOf]

theorem loadPair_eq_advanced (x : Pair) (v : Word) (s : State) :
    loadPair x v s = .next (Claims.advanced 3 (Claims.putPair s x v)) := by
  rw [loadPair, seq_eq_advanced, writePair_eq_putPair]

theorem loadA_eq_advanced (a : Word) (n : Nat) (s : State) :
    loadA a n s = .next (Claims.advanced n (Claims.putReg s .a (s.mem.read a.toNat))) := by
  rw [loadA, seq_eq_advanced]
  rfl

end Sys2Proof.Machine

namespace Sys2Proof.Claims
open Sys2Proof.Machine

theorem exec_movForms : ∀ f ∈ movForms, ∀ s : State,
    encode f.instr = f.bytes ∧ exec f.instr s = moveByte (.reg f.dst) (.reg f.src) 1 s := by
  intro f hf s
  fin_cases hf <;> exact ⟨rfl, rfl⟩

theorem exec_movFromMemoryForms : ∀ f ∈ movFromMemoryForms, ∀ s : State,
    encode f.instr = f.bytes ∧ exec f.instr s = moveByte (.reg f.reg) .m 1 s := by
  intro f hf s
  fin_cases hf <;> exact ⟨rfl, rfl⟩

theorem exec_mviForms (d8 : Byte) : ∀ f ∈ mviForms d8, ∀ s : State,
    encode f.instr = f.bytes ∧ exec f.instr s = moveByte (.reg f.reg) (.imm d8) 2 s := by
  intro f hf s
  fin_cases hf <;> exact ⟨rfl, rfl⟩

theorem exec_lxiForms (d16 : Word) : ∀ f ∈ lxiForms d16, ∀ s : State,
    encode f.instr = f.bytes ∧ exec f.instr s = loadPair f.pair d16 s := by
  intro f hf s
  fin_cases hf <;> exact ⟨rfl, rfl⟩

theorem exec_byteStoreForms (d8 : Byte) (a16 : Word) (s : State) : ∀ f ∈ byteStoreForms d8 a16 s,
    encode f.instr = f.bytes ∧ exec f.instr s = .next (seq f.length (memWrite f.addr.toNat f.value s)) := by
  intro f hf
  fin_cases hf <;> exact ⟨rfl, rfl⟩

/-- Settles O14: every form makes one write, of its byte at its address, and advances. -/
theorem byteStoresFollowTheWritePolicy : Obligations.ByteStoresFollowTheWritePolicy := by
  unfold Obligations.ByteStoresFollowTheWritePolicy
  intro d8 a16 s f hf
  obtain ⟨hbytes, hexec⟩ := exec_byteStoreForms d8 a16 s f hf
  rw [seq_eq_advanced] at hexec
  exact ⟨hbytes, stores_of_exec hexec⟩

/-- Settles O15: both are the two writes of `write16` at HL's bytes; XTHL has read the stack before it writes. -/
theorem wordStoresFoldTheSecondAddress : Obligations.WordStoresFoldTheSecondAddress := by
  unfold Obligations.WordStoresFoldTheSecondAddress
  intro a16 s
  refine ⟨rfl, stores_of_exec ?shld, rfl, stores_of_exec ?xthl⟩
  case shld =>
    change execShld a16 s = _
    rw [execShld, seq_eq_advanced, hl, write16_joinBytes]
  case xthl =>
    change execXthl s = _
    rw [execXthl, seq_eq_advanced, writePair_eq_putPair, hl, write16_joinBytes]
    rfl

/-- Settles O10: every form is `moveByte` between its two registers. -/
theorem movCopiesRegisterToRegister : Obligations.MovCopiesRegisterToRegister := by
  unfold Obligations.MovCopiesRegisterToRegister
  intro f hf s
  obtain ⟨hbytes, hexec⟩ := exec_movForms f hf s
  exact ⟨hbytes, hexec.trans (moveByte_reg ..)⟩

/-- Settles O11: every form is `moveByte` from M, which is read before the register is written. -/
theorem movLoadsRegisterFromMemory : Obligations.MovLoadsRegisterFromMemory := by
  unfold Obligations.MovLoadsRegisterFromMemory
  intro f hf s
  obtain ⟨hbytes, hexec⟩ := exec_movFromMemoryForms f hf s
  exact ⟨hbytes, hexec.trans (moveByte_reg ..)⟩

/-- Settles O12: MVI is `moveByte` from the immediate, LXI is `loadPair`. -/
theorem immediateLoads : Obligations.ImmediateLoads := by
  unfold Obligations.ImmediateLoads
  refine ⟨fun d8 f hf s => ?mvi, fun d16 f hf s => ?lxi⟩
  case mvi =>
    obtain ⟨hbytes, hexec⟩ := exec_mviForms d8 f hf s
    exact ⟨hbytes, hexec.trans (moveByte_reg ..)⟩
  case lxi =>
    obtain ⟨hbytes, hexec⟩ := exec_lxiForms d16 f hf s
    exact ⟨hbytes, hexec.trans (loadPair_eq_advanced ..)⟩

/-- Settles O13: LDA and LDAX are `loadA`; LHLD joins the two bytes it reads, and the address of the second is modulo 2^16. -/
theorem loadsFromMemory : Obligations.LoadsFromMemory := by
  unfold Obligations.LoadsFromMemory
  intro a16 s
  refine ⟨rfl, loadA_eq_advanced a16 3 s, rfl, loadA_eq_advanced (pairOf s .bc) 1 s, rfl,
    loadA_eq_advanced (pairOf s .de) 1 s, rfl, ?lhld⟩
  change execLhld a16 s = _
  rw [execLhld, seq_eq_advanced, read16, writePair_hl_joinBytes, memRead, memRead, BitVec.toNat_add]
  rfl

/-- Settles O16: both pairs of XCHG are read before either is written. -/
theorem exchangesAndPointerLoads : Obligations.ExchangesAndPointerLoads := by
  unfold Obligations.ExchangesAndPointerLoads
  intro s
  refine ⟨rfl, ?xchg, rfl, ?sphl, rfl, rfl⟩
  case xchg =>
    change execXchg s = _
    rw [execXchg, seq_eq_advanced, hl, readPair, writePair_hl_joinBytes, writePair_de_joinBytes]
    rfl
  case sphl =>
    change execSphl s = _
    rw [execSphl, seq_eq_advanced]
    rfl

end Sys2Proof.Claims
end

section
namespace Sys2Proof.Machine

/-! ### Words and bytes made of exact numbers, modulo their size -/

theorem ofNat_mod_256 (n : Nat) : BitVec.ofNat 8 (n % 256) = BitVec.ofNat 8 n := by
  apply BitVec.eq_of_toNat_eq
  simp

theorem hiByte_ofNat (n : Nat) : hiByte (BitVec.ofNat 16 n) = BitVec.ofNat 8 (n / 256) := by
  apply BitVec.eq_of_toNat_eq
  rw [hiByte_toNat, BitVec.toNat_ofNat, BitVec.toNat_ofNat]
  omega

theorem loByte_ofNat (n : Nat) : loByte (BitVec.ofNat 16 n) = BitVec.ofNat 8 n := by
  apply BitVec.eq_of_toNat_eq
  rw [loByte_toNat, BitVec.toNat_ofNat, BitVec.toNat_ofNat]
  omega

theorem add_one_eq_ofNat (v : Word) : v + 1 = BitVec.ofNat 16 (v.toNat + 1) := by
  bv_omega

/-- Subtracting 1 is adding 65535 modulo 2^16. -/
theorem sub_one_eq_ofNat (v : Word) : v - 1 = BitVec.ofNat 16 (v.toNat + 65535) := by
  bv_omega

/-! ### The ALU results and flags in the terms of the statements (R30, R120, R121, R134 to R137) -/

theorem popcount_eq_countP (v : Byte) : popcount v = (List.range 8).countP fun k => v.toNat.testBit k := by
  simp only [popcount, BitVec.getLsbD, List.range_succ, List.range_zero, List.countP_append, List.countP_singleton,
    List.countP_nil, Nat.zero_add, Bool.toNat, Bool.cond_eq_ite]

/-- ZSP with the AC and CY already in place gives the five flags the statements name. -/
theorem zsp_eq_flagsFor (v : Byte) (f : Flags) : zsp v f = Claims.flagsFor v.toNat f.ac f.cy := by
  rw [zsp_eq, popcount_eq_countP]
  rfl

theorem arithFlags_eq_flagsFor (x : AluResult) (f : Flags) :
    arithFlags x f = Claims.flagsFor x.value.toNat x.ac x.cy := zsp_eq_flagsFor ..

theorem stepFlags_eq_flagsFor (x : AluResult) (f : Flags) :
    stepFlags x f = Claims.flagsFor x.value.toNat x.ac f.cy := zsp_eq_flagsFor ..

section
variable (v : Byte) (f : Flags)

theorem add8_one :
    add8 v 1 false =
      ⟨BitVec.ofNat 8 (v.toNat + 1), decide (255 < v.toNat + 1), decide (v.toNat % 16 = 15)⟩ := by
  have hac : decide (15 < v.toNat % 16 + 1 % 16 + 0) = decide (v.toNat % 16 = 15) := by
    rw [decide_eq_decide]
    omega
  rw [← hac]
  exact add8_eq v 1 false

/-- Subtracting 1 is adding 255 modulo 256; the low nibble borrows only when it is 0. -/
theorem sub8_one :
    sub8 v 1 false =
      ⟨BitVec.ofNat 8 (v.toNat + 255), decide (v.toNat < 1), decide (v.toNat % 16 ≠ 0)⟩ := by
  have hac : decide (1 % 16 + 0 ≤ v.toNat % 16) = decide (v.toNat % 16 ≠ 0) := by
    rw [decide_eq_decide]
    omega
  rw [← hac]
  exact sub8_eq v 1 false

theorem stepFlags_add8_one : stepFlags (add8 v 1 false) f = Claims.flagsOfInr f v := by
  rw [stepFlags_eq_flagsFor, add8_one, BitVec.toNat_ofNat]
  rfl

theorem stepFlags_sub8_one : stepFlags (sub8 v 1 false) f = Claims.flagsOfDcr f v := by
  rw [stepFlags_eq_flagsFor, sub8_one, BitVec.toNat_ofNat]
  rfl

end

/-! ### The shapes of arithmetic (R126 to R140) -/

section
variable (s : State)

theorem addToA_eq_advanced (y : Source) (c : Bool) (n : Nat) :
    addToA y c n s = .next (Claims.advanced n (Claims.afterAdd s (Claims.operandOf s y) c.toNat)) := by
  rw [addToA, seq_eq_advanced, readSource_eq_operandOf, arithFlags_eq_flagsFor, add8_eq, BitVec.toNat_ofNat,
    Claims.afterAdd, ofNat_mod_256]
  rfl

theorem subFromA_eq_advanced (y : Source) (b : Bool) (n : Nat) :
    subFromA y b n s = .next (Claims.advanced n (Claims.afterSub s (Claims.operandOf s y) b.toNat)) := by
  rw [subFromA, seq_eq_advanced, readSource_eq_operandOf, arithFlags_eq_flagsFor, sub8_eq, BitVec.toNat_ofNat]
  rfl

/-- INR writes the place and then the flags, which come from the byte read and not from the write. -/
theorem increment_eq_advanced (x : Place) :
    increment x s = .next (Claims.advanced 1
      { writePlace x (BitVec.ofNat 8 ((readPlace x s).toNat + 1)) s with
        flags := Claims.flagsOfInr s.flags (readPlace x s) }) := by
  rw [increment, seq_eq_advanced, stepFlags_add8_one, add8_one]
  rfl

/-- DCR writes the place and then the flags, which come from the byte read and not from the write. -/
theorem decrement_eq_advanced (x : Place) :
    decrement x s = .next (Claims.advanced 1
      { writePlace x (BitVec.ofNat 8 ((readPlace x s).toNat + 255)) s with
        flags := Claims.flagsOfDcr s.flags (readPlace x s) }) := by
  rw [decrement, seq_eq_advanced, stepFlags_sub8_one, sub8_one]
  rfl

theorem readPlace_reg (x : Reg) : readPlace (.reg x) s = Claims.regOf s x := get_eq_regOf s x

theorem writePlace_reg (x : Reg) (v : Byte) : writePlace (.reg x) v s = Claims.putReg s x v :=
  setRegs_set_eq_putReg s x v

theorem readPlace_m : readPlace .m s = Claims.byteAtHl s := memRead_hl s

theorem writePlace_m (v : Byte) : writePlace .m v s = writeAll s [((Claims.pairOf s .hl).toNat, v)] := rfl

theorem readPair_eq_pairOf (x : Pair) : readPair x s = Claims.pairOf s x := by
  cases x <;> rfl

/-- DAD splits the exact sum into the bytes of HL; the carry is its bit 16 (R140). -/
theorem addToHl_eq_advanced (x : Pair) :
    addToHl x s = .next (Claims.advanced 1
      { s with
        regs := { s.regs with
          h := BitVec.ofNat 8 (((Claims.pairOf s .hl).toNat + (Claims.pairOf s x).toNat) / 256)
          l := BitVec.ofNat 8 ((Claims.pairOf s .hl).toNat + (Claims.pairOf s x).toNat) }
        flags := { s.flags with
          cy := decide (65535 < (Claims.pairOf s .hl).toNat + (Claims.pairOf s x).toNat) } }) := by
  rw [addToHl, seq_eq_advanced, readPair_eq_pairOf, writePair, hiByte_ofNat, loByte_ofNat]
  rfl

end

end Sys2Proof.Machine

namespace Sys2Proof.Claims
open Sys2Proof.Machine

section
variable (s : State)

theorem exec_addForms (d8 : Byte) : ∀ f ∈ addForms d8,
    encode f.instr = f.bytes ∧ exec f.instr s = addToA f.operand false f.length s := by
  intro f hf
  fin_cases hf <;> exact ⟨rfl, rfl⟩

theorem exec_adcForms (d8 : Byte) : ∀ f ∈ adcForms d8,
    encode f.instr = f.bytes ∧ exec f.instr s = addToA f.operand s.flags.cy f.length s := by
  intro f hf
  fin_cases hf <;> exact ⟨rfl, rfl⟩

theorem exec_subForms (d8 : Byte) : ∀ f ∈ subForms d8,
    encode f.instr = f.bytes ∧ exec f.instr s = subFromA f.operand false f.length s := by
  intro f hf
  fin_cases hf <;> exact ⟨rfl, rfl⟩

theorem exec_sbbForms (d8 : Byte) : ∀ f ∈ sbbForms d8,
    encode f.instr = f.bytes ∧ exec f.instr s = subFromA f.operand s.flags.cy f.length s := by
  intro f hf
  fin_cases hf <;> exact ⟨rfl, rfl⟩

theorem exec_inrForms : ∀ f ∈ inrForms,
    encode f.instr = f.bytes ∧ exec f.instr s = increment (.reg f.reg) s := by
  intro f hf
  fin_cases hf <;> exact ⟨rfl, rfl⟩

theorem exec_dcrForms : ∀ f ∈ dcrForms,
    encode f.instr = f.bytes ∧ exec f.instr s = decrement (.reg f.reg) s := by
  intro f hf
  fin_cases hf <;> exact ⟨rfl, rfl⟩

theorem exec_inxForms : ∀ f ∈ inxForms,
    encode f.instr = f.bytes ∧ exec f.instr s = .next (seq 1 (writePair f.pair (readPair f.pair s + 1) s)) := by
  intro f hf
  fin_cases hf <;> exact ⟨rfl, rfl⟩

theorem exec_dcxForms : ∀ f ∈ dcxForms,
    encode f.instr = f.bytes ∧ exec f.instr s = .next (seq 1 (writePair f.pair (readPair f.pair s - 1) s)) := by
  intro f hf
  fin_cases hf <;> exact ⟨rfl, rfl⟩

theorem exec_dadForms : ∀ f ∈ dadForms,
    encode f.instr = f.bytes ∧ exec f.instr s = addToHl f.pair s := by
  intro f hf
  fin_cases hf <;> exact ⟨rfl, rfl⟩

end

/-- Settles O17: every form is `addToA` of its operand, ADC and ACI with CY as the carry in. -/
theorem additionsSetAAndAllFlags : Obligations.AdditionsSetAAndAllFlags := by
  unfold Obligations.AdditionsSetAAndAllFlags
  refine fun d8 s => ⟨fun f hf => ?add, fun f hf => ?adc⟩
  case add =>
    obtain ⟨hbytes, hexec⟩ := exec_addForms s d8 f hf
    exact ⟨hbytes, hexec.trans (addToA_eq_advanced ..)⟩
  case adc =>
    obtain ⟨hbytes, hexec⟩ := exec_adcForms s d8 f hf
    exact ⟨hbytes, hexec.trans (addToA_eq_advanced ..)⟩

/-- Settles O18: every form is `subFromA` of its operand, SBB and SBI with CY as the borrow in. -/
theorem subtractionsSetAAndAllFlags : Obligations.SubtractionsSetAAndAllFlags := by
  unfold Obligations.SubtractionsSetAAndAllFlags
  refine fun d8 s => ⟨fun f hf => ?sub, fun f hf => ?sbb⟩
  case sub =>
    obtain ⟨hbytes, hexec⟩ := exec_subForms s d8 f hf
    exact ⟨hbytes, hexec.trans (subFromA_eq_advanced ..)⟩
  case sbb =>
    obtain ⟨hbytes, hexec⟩ := exec_sbbForms s d8 f hf
    exact ⟨hbytes, hexec.trans (subFromA_eq_advanced ..)⟩

/-- Settles O22: `increment` and `decrement` of a register, whose read and write are those of the statements. -/
theorem registerIncrementsKeepCarry : Obligations.RegisterIncrementsKeepCarry := by
  unfold Obligations.RegisterIncrementsKeepCarry
  refine fun s => ⟨fun f hf => ?inr, fun f hf => ?dcr⟩
  case inr =>
    obtain ⟨hbytes, hexec⟩ := exec_inrForms s f hf
    rw [increment_eq_advanced, readPlace_reg, writePlace_reg] at hexec
    exact ⟨hbytes, hexec⟩
  case dcr =>
    obtain ⟨hbytes, hexec⟩ := exec_dcrForms s f hf
    rw [decrement_eq_advanced, readPlace_reg, writePlace_reg] at hexec
    exact ⟨hbytes, hexec⟩

/-- Settles O23: both make one write at HL, suppressed or not, and then write the flags of the byte they read. -/
theorem memoryIncrementsSetFlagsEvenWhenSuppressed : Obligations.MemoryIncrementsSetFlagsEvenWhenSuppressed := by
  unfold Obligations.MemoryIncrementsSetFlagsEvenWhenSuppressed
  refine fun s => ⟨rfl, stores_of_exec ?inrM, rfl, stores_of_exec ?dcrM⟩
  case inrM =>
    change increment .m s = _
    rw [increment_eq_advanced, readPlace_m, writePlace_m]
  case dcrM =>
    change decrement .m s = _
    rw [decrement_eq_advanced, readPlace_m, writePlace_m]

/-- Settles O25: every form is `addToHl` of its pair. -/
theorem dadAddsPairsAndSetsCarryOnly : Obligations.DadAddsPairsAndSetsCarryOnly := by
  unfold Obligations.DadAddsPairsAndSetsCarryOnly
  intro f hf s
  obtain ⟨hbytes, hexec⟩ := exec_dadForms s f hf
  exact ⟨hbytes, hexec.trans (addToHl_eq_advanced ..)⟩

/-- Settles O24: a step of a word by one is an addition on numbers, and writing the pair changes no flag. -/
theorem pairIncrementsWriteNoFlag : Obligations.PairIncrementsWriteNoFlag := by
  unfold Obligations.PairIncrementsWriteNoFlag
  refine fun s => ⟨fun f hf => ?inx, fun f hf => ?dcx⟩
  case inx =>
    obtain ⟨hbytes, hexec⟩ := exec_inxForms s f hf
    rw [seq_eq_advanced, writePair_eq_putPair, readPair_eq_pairOf, add_one_eq_ofNat] at hexec
    exact ⟨hbytes, hexec⟩
  case dcx =>
    obtain ⟨hbytes, hexec⟩ := exec_dcxForms s f hf
    rw [seq_eq_advanced, writePair_eq_putPair, readPair_eq_pairOf, sub_one_eq_ofNat] at hexec
    exact ⟨hbytes, hexec⟩

end Sys2Proof.Claims
end

section
namespace Sys2Proof.Machine

/-! ### The shapes of logic and comparison (R122, R123, R150 to R161) -/

theorem and_eq_ofNat (a b : Byte) : a &&& b = BitVec.ofNat 8 (a.toNat &&& b.toNat) := by
  rw [← BitVec.toNat_and, BitVec.ofNat_toNat, BitVec.setWidth_eq]

theorem xor_eq_ofNat (a b : Byte) : a ^^^ b = BitVec.ofNat 8 (a.toNat ^^^ b.toNat) := by
  rw [← BitVec.toNat_xor, BitVec.ofNat_toNat, BitVec.setWidth_eq]

theorem or_eq_ofNat (a b : Byte) : a ||| b = BitVec.ofNat 8 (a.toNat ||| b.toNat) := by
  rw [← BitVec.toNat_or, BitVec.ofNat_toNat, BitVec.setWidth_eq]

/-- AC of an AND in the terms of R122, for both modes. -/
theorem andFlags_eq_flagsFor (mode : AnaAcMode) (a b : Byte) (f : Flags) :
    andFlags mode a b f =
      Claims.flagsFor (a &&& b).toNat (mode == .orBit3 && (a.toNat.testBit 3 || b.toNat.testBit 3)) false := by
  cases mode with
  | orBit3 =>
    have hbit : (a ||| b).getLsbD 3 = (a.toNat.testBit 3 || b.toNat.testBit 3) := BitVec.getLsbD_or
    rw [← hbit]
    exact zsp_eq_flagsFor ..
  | zero => exact zsp_eq_flagsFor ..

theorem orFlags_eq_flagsFor (r : Byte) (f : Flags) : orFlags r f = Claims.flagsFor r.toNat false false :=
  zsp_eq_flagsFor ..

section
variable (s : State) (y : Source) (n : Nat)

theorem andA_eq_advanced :
    andA y n s = .next (Claims.advanced n
      (Claims.afterLogic s (BitVec.ofNat 8 (s.regs.a.toNat &&& (Claims.operandOf s y).toNat))
        (s.cfg.anaAcMode == .orBit3 && (s.regs.a.toNat.testBit 3 || (Claims.operandOf s y).toNat.testBit 3)))) := by
  rw [andA, seq_eq_advanced, readSource_eq_operandOf, andFlags_eq_flagsFor, and_eq_ofNat]
  rfl

theorem xorA_eq_advanced :
    xorA y n s = .next (Claims.advanced n
      (Claims.afterLogic s (BitVec.ofNat 8 (s.regs.a.toNat ^^^ (Claims.operandOf s y).toNat)) false)) := by
  rw [xorA, seq_eq_advanced, readSource_eq_operandOf, orFlags_eq_flagsFor, xor_eq_ofNat]
  rfl

theorem orA_eq_advanced :
    orA y n s = .next (Claims.advanced n
      (Claims.afterLogic s (BitVec.ofNat 8 (s.regs.a.toNat ||| (Claims.operandOf s y).toNat)) false)) := by
  rw [orA, seq_eq_advanced, readSource_eq_operandOf, orFlags_eq_flagsFor, or_eq_ofNat]
  rfl

theorem compareA_eq_advanced :
    compareA y n s = .next (Claims.advanced n
      { s with flags := Claims.flagsOfSub s.regs.a.toNat (Claims.operandOf s y).toNat 0 }) := by
  rw [compareA, seq_eq_advanced, readSource_eq_operandOf, arithFlags_eq_flagsFor, sub8_eq, BitVec.toNat_ofNat]
  rfl

end

end Sys2Proof.Machine

namespace Sys2Proof.Claims
open Sys2Proof.Machine

section
variable (s : State)

theorem exec_anaForms (d8 : Byte) : ∀ f ∈ anaForms d8,
    encode f.instr = f.bytes ∧ exec f.instr s = andA f.operand f.length s := by
  intro f hf
  fin_cases hf <;> exact ⟨rfl, rfl⟩

theorem exec_xraForms (d8 : Byte) : ∀ f ∈ xraForms d8,
    encode f.instr = f.bytes ∧ exec f.instr s = xorA f.operand f.length s := by
  intro f hf
  fin_cases hf <;> exact ⟨rfl, rfl⟩

theorem exec_oraForms (d8 : Byte) : ∀ f ∈ oraForms d8,
    encode f.instr = f.bytes ∧ exec f.instr s = orA f.operand f.length s := by
  intro f hf
  fin_cases hf <;> exact ⟨rfl, rfl⟩

theorem exec_cmpForms (d8 : Byte) : ∀ f ∈ cmpForms d8,
    encode f.instr = f.bytes ∧ exec f.instr s = compareA f.operand f.length s := by
  intro f hf
  fin_cases hf <;> exact ⟨rfl, rfl⟩

end

/-- Settles O19: every form is `compareA` of its operand, which writes the flags of `sub8` and no register. -/
theorem comparesSetFlagsOnly : Obligations.ComparesSetFlagsOnly := by
  unfold Obligations.ComparesSetFlagsOnly
  intro d8 s f hf
  obtain ⟨hbytes, hexec⟩ := exec_cmpForms s d8 f hf
  exact ⟨hbytes, hexec.trans (compareA_eq_advanced ..)⟩

/-- Settles O20: every form is `andA` of its operand, whose AC is a case per ANA_AC_MODE (`andFlags_eq_flagsFor`). -/
theorem andsSetAAndFlags : Obligations.AndsSetAAndFlags := by
  unfold Obligations.AndsSetAAndFlags
  intro d8 s f hf
  obtain ⟨hbytes, hexec⟩ := exec_anaForms s d8 f hf
  exact ⟨hbytes, hexec.trans (andA_eq_advanced ..)⟩

/-- Settles O21: every form is `xorA` or `orA` of its operand. -/
theorem orsAndXorsSetAAndFlags : Obligations.OrsAndXorsSetAAndFlags := by
  unfold Obligations.OrsAndXorsSetAAndFlags
  refine fun d8 s => ⟨fun f hf => ?xra, fun f hf => ?ora⟩
  case xra =>
    obtain ⟨hbytes, hexec⟩ := exec_xraForms s d8 f hf
    exact ⟨hbytes, hexec.trans (xorA_eq_advanced ..)⟩
  case ora =>
    obtain ⟨hbytes, hexec⟩ := exec_oraForms s d8 f hf
    exact ⟨hbytes, hexec.trans (orA_eq_advanced ..)⟩

end Sys2Proof.Claims
end

section
namespace Sys2Proof.Machine

/-! ### Decimal adjustment on numbers (R141) -/

/-- Whether DAA corrects the low nibble. -/
def daaLow (a : Byte) (f : Flags) : Bool := f.ac || decide (9 < a.toNat % 16)

/-- Whether DAA corrects the high nibble, which is its CY. -/
def daaHigh (a : Byte) (f : Flags) : Bool :=
  f.cy || decide (9 < a.toNat / 16) || (decide (9 ≤ a.toNat / 16) && decide (9 < a.toNat % 16))

/-- The number DAA adds to A. -/
def daaAddend (a : Byte) (f : Flags) : Nat := 6 * (daaLow a f).toNat + 96 * (daaHigh a f).toNat

theorem daaCorrection_eq (a : Byte) (f : Flags) :
    daaCorrection a f = (BitVec.ofNat 8 (daaAddend a f), daaHigh a f) := by
  have hhi : (a >>> 4).toNat = a.toNat / 16 := by
    rw [BitVec.toNat_ushiftRight, Nat.shiftRight_eq_div_pow]
  have hlow : daaCorrection a f =
      if daaHigh a f then ((if daaLow a f then 0x06 else 0x00) ||| 0x60, true)
      else (if daaLow a f then 0x06 else 0x00, f.cy) := by
    rw [daaCorrection, lowNibble_toNat, hhi]
    rfl
  rw [hlow, daaAddend]
  cases hh : daaHigh a f with
  | true => cases daaLow a f <;> rfl
  | false =>
    rw [daaHigh, Bool.or_eq_false_iff, Bool.or_eq_false_iff] at hh
    obtain ⟨⟨hcy, -⟩, -⟩ := hh
    rw [hcy]
    cases daaLow a f <;> rfl

theorem daaAddend_toNat (a : Byte) (f : Flags) : (BitVec.ofNat 8 (daaAddend a f)).toNat = daaAddend a f := by
  have hlow := Bool.toNat_lt (daaLow a f)
  have hhigh := Bool.toNat_lt (daaHigh a f)
  rw [BitVec.toNat_ofNat, daaAddend]
  omega

theorem daaAddend_mod_16 (a : Byte) (f : Flags) : daaAddend a f % 16 = 6 * (daaLow a f).toNat := by
  have hlow := Bool.toNat_lt (daaLow a f)
  rw [daaAddend]
  omega

theorem decimalAdjust_eq_advanced (s : State) :
    decimalAdjust s = .next (Claims.advanced 1
      { s with
        regs := { s.regs with a := BitVec.ofNat 8 (s.regs.a.toNat + daaAddend s.regs.a s.flags) }
        flags := Claims.flagsFor ((s.regs.a.toNat + daaAddend s.regs.a s.flags) % 256)
          (decide (15 < s.regs.a.toNat % 16 + 6 * (daaLow s.regs.a s.flags).toNat)) (daaHigh s.regs.a s.flags) }) := by
  rw [decimalAdjust, seq_eq_advanced, zsp_eq_flagsFor, daaCorrection_eq, add8_eq, daaAddend_toNat, daaAddend_mod_16,
    BitVec.toNat_ofNat]
  rfl

/-! ### Binary sums of two-digit decimal numbers, and DAA of them (R120, R141) -/

/-- `a` is `16 * h + l` modulo 256, for the sums `h` and `l` of two high and of two low decimal digits (with a carry into
the low ones), and `f` has the AC and CY of that addition. -/
structure DigitSums (h l : Nat) (a : Byte) (f : Flags) : Prop where
  high  : h ≤ 18
  low   : l ≤ 19
  value : a.toNat = (16 * h + l) % 256
  ac    : f.ac = decide (15 < l)
  cy    : f.cy = decide (255 < 16 * h + l)

section
variable {h l : Nat} {a : Byte} {f : Flags}

/-- DAA corrects the low nibble exactly when the low digits carry. -/
theorem DigitSums.daaLow_eq (d : DigitSums h l a f) : daaLow a f = decide (10 ≤ l) := by
  obtain ⟨-, hl, ha, hac, -⟩ := d
  rw [daaLow, hac, ← Bool.decide_or, decide_eq_decide]
  omega

/-- DAA corrects the high nibble exactly when the decimal sum has a third digit. -/
theorem DigitSums.daaHigh_eq (d : DigitSums h l a f) : daaHigh a f = decide (100 ≤ 10 * h + l) := by
  obtain ⟨hh, hl, ha, -, hcy⟩ := d
  rw [daaHigh, hcy, ← Bool.decide_and, ← Bool.decide_or, ← Bool.decide_or, decide_eq_decide]
  omega

end

end Sys2Proof.Machine

namespace Sys2Proof.Claims
open Sys2Proof.Machine

@[simp] theorem advanced_regs (n : Nat) (s : State) : (advanced n s).regs = s.regs := by
  rw [← seq_eq_advanced, seq_regs]

@[simp] theorem advanced_flags (n : Nat) (s : State) : (advanced n s).flags = s.flags := by
  rw [← seq_eq_advanced, seq_flags]

theorem isBcd_iff (v : Byte) : isBcd v = true ↔ v.toNat % 16 ≤ 9 ∧ v.toNat / 16 ≤ 9 := by
  rw [isBcd, Bool.and_eq_true, decide_eq_true_eq, decide_eq_true_eq]

/-- The two-digit BCD byte of a number below 100. -/
def bcdByte (n : Nat) : Byte := BitVec.ofNat 8 (16 * (n / 10) + n % 10)

section
variable {n : Nat} (hn : n < 100)
include hn

theorem bcdByte_toNat : (bcdByte n).toNat = 16 * (n / 10) + n % 10 := by
  rw [bcdByte, BitVec.toNat_ofNat]
  omega

theorem isBcd_bcdByte : isBcd (bcdByte n) = true := by
  rw [isBcd_iff, bcdByte_toNat hn]
  omega

theorem bcdValue_bcdByte : bcdValue (bcdByte n) = n := by
  rw [bcdValue, bcdByte_toNat hn]
  omega

end

theorem toNat_decide_le_eq_div {k m : Nat} (h : m < 2 * k) : (decide (k ≤ m)).toNat = m / k := by
  by_cases hk : k ≤ m
  · have hquot : m / k = 1 := Nat.div_eq_of_lt_le (by omega) (by omega)
    rw [decide_eq_true hk, hquot, Bool.toNat_true]
  · rw [decide_eq_false hk, Nat.div_eq_of_lt (by omega), Bool.toNat_false]

section
variable {h l : Nat}

/-- DAA of a binary sum gives the BCD byte of the decimal sum: 6 turns ten low units into one high unit, and 96 turns ten
high units into 256. -/
theorem daa_of_digitSums {a : Byte} {f : Flags} (d : DigitSums h l a f) :
    BitVec.ofNat 8 (a.toNat + daaAddend a f) = bcdByte ((10 * h + l) % 100) := by
  have hh := d.high
  have hl := d.low
  have hlow : (daaLow a f).toNat = l / 10 := by rw [d.daaLow_eq, toNat_decide_le_eq_div (by omega)]
  have hhigh : (daaHigh a f).toNat = (10 * h + l) / 100 := by rw [d.daaHigh_eq, toNat_decide_le_eq_div (by omega)]
  have hdigits : 16 * h + l + (6 * (l / 10) + 96 * ((10 * h + l) / 100)) =
      16 * ((10 * h + l) % 100 / 10) + (10 * h + l) % 100 % 10 + 256 * ((10 * h + l) / 100) := by omega
  rw [daaAddend, hlow, hhigh, d.value, bcdByte]
  apply BitVec.eq_of_toNat_eq
  rw [BitVec.toNat_ofNat, BitVec.toNat_ofNat, Nat.mod_add_mod, hdigits, Nat.add_mul_mod_self_left]

theorem exec_daa_of_digitSums {t : State} (d : DigitSums h l t.regs.a t.flags) :
    ∃ u, exec .daa t = .next u ∧ u.regs.a = bcdByte ((10 * h + l) % 100) ∧
      u.flags.cy = decide (100 ≤ 10 * h + l) := by
  refine ⟨_, decimalAdjust_eq_advanced t, ?a, ?cy⟩
  case a =>
    rw [advanced_regs]
    exact daa_of_digitSums d
  case cy =>
    rw [advanced_flags]
    exact d.daaHigh_eq

end

/-- ACI of BCD bytes leaves the binary sum of their digit sums, the carry counted with the low digits. -/
theorem exec_aci_digitSums {d8 : Byte} {s : State} (hA : isBcd s.regs.a = true) (hD : isBcd d8 = true) :
    ∃ t, exec (.aci d8) s = .next t ∧
      DigitSums (s.regs.a.toNat / 16 + d8.toNat / 16) (s.regs.a.toNat % 16 + d8.toNat % 16 + s.flags.cy.toNat)
        t.regs.a t.flags := by
  rw [isBcd_iff] at hA hD
  have hc := Bool.toNat_lt s.flags.cy
  have hsum : 16 * (s.regs.a.toNat / 16 + d8.toNat / 16) + (s.regs.a.toNat % 16 + d8.toNat % 16 + s.flags.cy.toNat) =
      s.regs.a.toNat + d8.toNat + s.flags.cy.toNat := by omega
  refine ⟨_, addToA_eq_advanced s (.imm d8) s.flags.cy 2, ?_⟩
  rw [advanced_regs, advanced_flags]
  refine ⟨by omega, by omega, ?value, rfl, ?cy⟩
  case value =>
    rw [hsum]
    exact (BitVec.toNat_ofNat _ 8).trans (Nat.mod_mod _ _)
  case cy =>
    rw [hsum]
    rfl

/-- Settles O27: ACI leaves the binary sum of the digit sums with its carries in AC and CY, and DAA makes that the decimal
sum. -/
theorem daaAfterAciAddsDecimals : Obligations.DaaAfterAciAddsDecimals := by
  unfold Obligations.DaaAfterAciAddsDecimals
  intro d8 s hA hD
  obtain ⟨t, haci, hsums⟩ := exec_aci_digitSums hA hD
  obtain ⟨u, hdaa, ha, hcy⟩ := exec_daa_of_digitSums hsums
  have hdec : 10 * (s.regs.a.toNat / 16 + d8.toNat / 16) + (s.regs.a.toNat % 16 + d8.toNat % 16 + s.flags.cy.toNat) =
      bcdValue s.regs.a + bcdValue d8 + s.flags.cy.toNat := by
    rw [bcdValue, bcdValue]
    omega
  rw [hdec] at ha hcy
  have hlt : (bcdValue s.regs.a + bcdValue d8 + s.flags.cy.toNat) % 100 < 100 := Nat.mod_lt _ (by decide)
  refine ⟨t, u, haci, hdaa, ?_, ?_, hcy⟩
  · rw [ha, isBcd_bcdByte hlt]
  · rw [ha, bcdValue_bcdByte hlt]

end Sys2Proof.Claims
end

section
namespace Sys2Proof.Machine

/-! ### The bytes the rotates write, on numbers and bit for bit (R170 to R173) -/

section
variable (a : Byte) (b : Bool)

theorem bitByte_toNat {k : Nat} (hk : k < 8) : (bitByte b k).toNat = b.toNat <<< k := by
  cases b with
  | false => simp [bitByte]
  | true =>
    change (BitVec.twoPow 8 k).toNat = 1 <<< k
    rw [BitVec.toNat_twoPow_of_lt hk, Nat.one_shiftLeft]

/-- A left shift leaves bit 0 free, so the incoming bit is added there. -/
theorem shiftLeft_or_bitByte :
    a <<< 1 ||| bitByte b 0 = BitVec.ofNat 8 (2 * a.toNat % 256 + b.toNat) := by
  have hshift : a.toNat <<< 1 % 256 = (a.toNat % 128) <<< 1 := by
    rw [Nat.shiftLeft_eq, Nat.shiftLeft_eq]
    omega
  rw [or_eq_ofNat, bitByte_toNat b (by decide), BitVec.toNat_shiftLeft, Nat.shiftLeft_zero, hshift,
    ← Nat.shiftLeft_add_eq_or_of_lt b.toNat_lt, ← hshift, Nat.shiftLeft_eq, Nat.mul_comm a.toNat]

/-- A right shift leaves bit 7 free, so the incoming bit is added there. -/
theorem ushiftRight_or_bitByte :
    a >>> 1 ||| bitByte b 7 = BitVec.ofNat 8 (a.toNat / 2 + 128 * b.toNat) := by
  have hhalf : a.toNat / 2 < 2 ^ 7 := by omega
  rw [or_eq_ofNat, bitByte_toNat b (by decide), BitVec.toNat_ushiftRight, Nat.shiftRight_eq_div_pow, Nat.lor_comm,
    ← Nat.shiftLeft_add_eq_or_of_lt hhalf, Nat.shiftLeft_eq, Nat.add_comm, Nat.mul_comm]

theorem bitByte_getLsbD {k : Nat} (hk : k < 8) (n : Nat) : (bitByte b k).getLsbD n = (decide (k = n) && b) := by
  cases b with
  | false => simp [bitByte]
  | true =>
    change (BitVec.twoPow 8 k).getLsbD n = _
    rw [BitVec.getLsbD_twoPow, decide_eq_true hk, Bool.true_and, Bool.and_true]

theorem shiftLeft_or_bitByte_getLsbD_zero : (a <<< 1 ||| bitByte b 0).getLsbD 0 = b := by
  rw [BitVec.getLsbD_or, bitByte_getLsbD b (by decide), BitVec.getLsbD_shiftLeft]
  rfl

theorem shiftLeft_or_bitByte_getLsbD_succ {n : Nat} (hn : n < 7) :
    (a <<< 1 ||| bitByte b 0).getLsbD (n + 1) = a.getLsbD n := by
  rw [BitVec.getLsbD_or, bitByte_getLsbD b (by decide), BitVec.getLsbD_shiftLeft, decide_eq_true (Nat.succ_lt_succ hn)]
  exact Bool.or_false _

theorem ushiftRight_or_bitByte_getLsbD_seven : (a >>> 1 ||| bitByte b 7).getLsbD 7 = b := by
  rw [BitVec.getLsbD_or, bitByte_getLsbD b (by decide), BitVec.getLsbD_ushiftRight,
    BitVec.getLsbD_of_ge _ _ (by decide)]
  rfl

theorem ushiftRight_or_bitByte_getLsbD_of_lt {n : Nat} (hn : n < 7) :
    (a >>> 1 ||| bitByte b 7).getLsbD n = a.getLsbD (n + 1) := by
  rw [BitVec.getLsbD_or, bitByte_getLsbD b (by decide), BitVec.getLsbD_ushiftRight, decide_eq_false hn.ne',
    Bool.false_and, Bool.or_false, Nat.add_comm]

theorem getLsbD_seven_eq_decide : a.getLsbD 7 = decide (128 ≤ a.toNat) := BitVec.msb_eq_decide a

theorem getLsbD_zero_eq_decide : a.getLsbD 0 = decide (a.toNat % 2 = 1) := Nat.testBit_zero a.toNat

end

theorem rotate_eq_advanced (a : Byte) (out : Bool) (s : State) :
    rotate a out s = .next (Claims.advanced 1
      { s with regs := { s.regs with a := a }, flags := { s.flags with cy := out } }) := by
  rw [rotate, seq_eq_advanced]
  rfl

end Sys2Proof.Machine

namespace Sys2Proof.Claims
open Sys2Proof.Machine

/-- Settles O28: every rotate is `rotate` of a shifted A with the incoming bit added at the free end. -/
theorem rotatesMoveOneBit : Obligations.RotatesMoveOneBit := by
  unfold Obligations.RotatesMoveOneBit
  intro s
  have hmod : (decide (s.regs.a.toNat % 2 = 1)).toNat = s.regs.a.toNat % 2 := by
    rw [← Nat.testBit_zero, Nat.toNat_testBit, Nat.pow_zero, Nat.div_one]
  have hdiv : (decide (128 ≤ s.regs.a.toNat)).toNat = s.regs.a.toNat / 128 := toNat_decide_le_eq_div s.regs.a.isLt
  refine ⟨rfl, ?rlc, rfl, ?rrc, rfl, ?ral, rfl, ?rar⟩
  case rlc =>
    change execRlc s = _
    rw [execRlc, rotate_eq_advanced, shiftLeft_or_bitByte, getLsbD_seven_eq_decide, hdiv]
  case rrc =>
    change execRrc s = _
    rw [execRrc, rotate_eq_advanced, ushiftRight_or_bitByte, getLsbD_zero_eq_decide, hmod]
  case ral =>
    change execRal s = _
    rw [execRal, rotate_eq_advanced, shiftLeft_or_bitByte, getLsbD_seven_eq_decide]
  case rar =>
    change execRar s = _
    rw [execRar, rotate_eq_advanced, ushiftRight_or_bitByte, getLsbD_zero_eq_decide]

/-! ### The ring CY:A of RAL and RAR (R172, R173) -/

/-- The bits of the 9-bit ring CY:A, CY at position 8. -/
def ringBit (cy : Bool) (a : Byte) (n : Fin 9) : Bool := (BitVec.cons cy a).getLsbD n

section
variable (cy : Bool) (a : Byte)

theorem ringBit_last : ringBit cy a (Fin.last 8) = cy := by
  rw [ringBit, BitVec.getLsbD_cons, Fin.val_last, if_pos rfl]

theorem ringBit_castSucc (n : Fin 8) : ringBit cy a n.castSucc = a.getLsbD n := by
  rw [ringBit, BitVec.getLsbD_cons, Fin.val_castSucc, if_neg n.isLt.ne]

/-- Bit 0 takes CY, every bit above it the one below, and CY takes bit 7: a turn by 8 positions. -/
theorem ringBit_shiftLeft (n : Fin 9) :
    ringBit (a.getLsbD 7) (a <<< 1 ||| bitByte cy 0) n = ringBit cy a (n + 8) := by
  cases n using Fin.lastCases with
  | last =>
    rw [ringBit_last]
    exact (ringBit_castSucc cy a 7).symm
  | cast n =>
    rw [ringBit_castSucc]
    cases n using Fin.cases with
    | zero => exact (shiftLeft_or_bitByte_getLsbD_zero a cy).trans (ringBit_last cy a).symm
    | succ n =>
      have hpos : n.succ.castSucc + 8 = n.castSucc.castSucc := by decide +revert
      rw [hpos, ringBit_castSucc]
      exact shiftLeft_or_bitByte_getLsbD_succ a cy n.isLt

/-- Bit 7 takes CY, every bit below it the one above, and CY takes bit 0: a turn by 1 position. -/
theorem ringBit_ushiftRight (n : Fin 9) :
    ringBit (a.getLsbD 0) (a >>> 1 ||| bitByte cy 7) n = ringBit cy a (n + 1) := by
  cases n using Fin.lastCases with
  | last =>
    rw [ringBit_last]
    exact (ringBit_castSucc cy a 0).symm
  | cast n =>
    rw [ringBit_castSucc]
    cases n using Fin.lastCases with
    | last => exact (ushiftRight_or_bitByte_getLsbD_seven a cy).trans (ringBit_last cy a).symm
    | cast n =>
      have hpos : n.castSucc.castSucc + 1 = n.succ.castSucc := by decide +revert
      rw [hpos, ringBit_castSucc]
      exact ushiftRight_or_bitByte_getLsbD_of_lt a cy n.isLt

end

/-- `t` has the ring of `s` turned by `r` positions, and every register and flag outside the ring as in `s`. -/
structure RingTurned (r : Fin 9) (s t : State) : Prop where
  bits  : ∀ n, ringBit t.flags.cy t.regs.a n = ringBit s.flags.cy s.regs.a (n + r)
  regs  : t.regs = { s.regs with a := t.regs.a }
  flags : t.flags = { s.flags with cy := t.flags.cy }

theorem RingTurned.refl (s : State) : RingTurned 0 s s := ⟨fun n => by rw [add_zero], rfl, rfl⟩

section
variable {q r : Fin 9} {s t u : State}

theorem RingTurned.trans (h : RingTurned q s t) (h' : RingTurned r t u) : RingTurned (r + q) s u where
  bits n := by rw [h'.bits, h.bits, add_assoc]
  regs := by rw [h'.regs, h.regs]
  flags := by rw [h'.flags, h.flags]

/-- The ring holds CY and every bit of A. -/
theorem RingTurned.eq_of_zero (h : RingTurned 0 s t) : t.regs = s.regs ∧ t.flags = s.flags := by
  have hring : BitVec.cons t.flags.cy t.regs.a = BitVec.cons s.flags.cy s.regs.a := by
    refine BitVec.eq_of_getLsbD_eq fun n hn => ?_
    have hbit := h.bits ⟨n, hn⟩
    rwa [add_zero] at hbit
  have hcy : t.flags.cy = s.flags.cy := by
    rw [← BitVec.msb_cons (a := t.flags.cy) (x := t.regs.a), hring, BitVec.msb_cons]
  have ha : t.regs.a = s.regs.a := by
    rw [← BitVec.setWidth_cons (a := t.flags.cy) (x := t.regs.a), hring, BitVec.setWidth_cons]
  rw [h.regs, h.flags, ha, hcy]
  exact ⟨rfl, rfl⟩

end

section
variable {i : Instr} {r : Fin 9} (h : ∀ s, ∃ t, exec i s = .next t ∧ RingTurned r s t)
include h

theorem execTimes_ringTurned (k : Nat) (s : State) :
    ∃ t, execTimes k i s = .next t ∧ RingTurned (k • r) s t := by
  induction k generalizing s with
  | zero => exact ⟨s, rfl, by rw [zero_nsmul]; exact .refl s⟩
  | succ k ih =>
    obtain ⟨t, hexec, hturn⟩ := h s
    obtain ⟨u, hrest, hturns⟩ := ih t
    refine ⟨u, ?_, ?_⟩
    · rw [execTimes, hexec]
      exact hrest
    · rw [succ_nsmul]
      exact hturn.trans hturns

/-- Nine equal turns of a ring of nine bits are whole turns. -/
theorem execTimes_nine_restores (s : State) :
    ∃ t, execTimes 9 i s = .next t ∧ t.regs = s.regs ∧ t.flags = s.flags := by
  obtain ⟨t, hexec, hturn⟩ := execTimes_ringTurned h 9 s
  have hzero : 9 • r = 0 := card_nsmul_eq_zero
  rw [hzero] at hturn
  exact ⟨t, hexec, hturn.eq_of_zero⟩

end

theorem rotate_ringTurned {a : Byte} {out : Bool} {r : Fin 9} {s : State}
    (h : ∀ n, ringBit out a n = ringBit s.flags.cy s.regs.a (n + r)) :
    ∃ t, rotate a out s = .next t ∧ RingTurned r s t := by
  refine ⟨_, rotate_eq_advanced a out s, ?_, ?_, ?_⟩
  · rw [advanced_flags, advanced_regs]
    exact h
  · rw [advanced_regs]
  · rw [advanced_flags]

theorem exec_ral_ringTurned (s : State) : ∃ t, exec .ral s = .next t ∧ RingTurned 8 s t :=
  rotate_ringTurned (ringBit_shiftLeft s.flags.cy s.regs.a)

theorem exec_rar_ringTurned (s : State) : ∃ t, exec .rar s = .next t ∧ RingTurned 1 s t :=
  rotate_ringTurned (ringBit_ushiftRight s.flags.cy s.regs.a)

/-- Settles O29: RAL turns the ring CY:A by 8 of its nine positions and RAR by 1; nine equal turns are whole
turns. -/
theorem nineCarryRotatesRestore : Obligations.NineCarryRotatesRestore := by
  unfold Obligations.NineCarryRotatesRestore
  exact fun s => ⟨execTimes_nine_restores exec_ral_ringTurned s, execTimes_nine_restores exec_rar_ringTurned s⟩

end Sys2Proof.Claims
end

section
namespace Sys2Proof.Machine

/-! ### The stack primitives in the terms of the statements (R180, R181) -/

section
variable (s : State)

/-- `push16` makes its two writes in order and then moves SP. -/
theorem push16_eq_writeAll (v : Word) :
    push16 v s = { writeAll s (Claims.pushWrites s v) with sp := s.sp - 2 } := rfl

theorem protectedAddr_toNat (a : Word) : protectedAddr a.toNat s = Claims.blocked s a.toNat := by
  rw [← protectedAddr_wrapAddr, wrapAddr_of_lt a.isLt]

theorem returnToPopped_eq : returnToPopped s = { s with pc := Claims.stackTop s, sp := s.sp + 2 } := rfl

end

/-- A push of which both bytes are stored leaves its word on top of the stack. -/
theorem stackTop_push16 {s : State} (v : Word) (h : Claims.pushStored s) : Claims.stackTop (push16 v s) = v := by
  obtain ⟨hhigh, hlow⟩ := h
  rw [← protectedAddr_toNat] at hhigh hlow
  exact pop16_push16 v s hhigh hlow

/-! ### The shapes of branches (R182 to R185) -/

section
variable (s : State)

theorem conditionalJump_eq_advanced (c : Bool) (a : Word) :
    conditionalJump c a s = .next (if c then { s with pc := a } else Claims.advanced 3 s) := by
  rw [conditionalJump, seq_eq_advanced]
  rfl

theorem conditionalReturn_eq_advanced (c : Bool) :
    conditionalReturn c s =
      .next (if c then { s with pc := Claims.stackTop s, sp := s.sp + 2 } else Claims.advanced 1 s) := by
  rw [conditionalReturn, seq_eq_advanced, returnToPopped_eq]

theorem conditionalCall_true (a : Word) :
    conditionalCall true a s =
      .next { writeAll s (Claims.pushWrites s (s.pc + 3)) with sp := s.sp - 2, pc := a } := by
  rw [conditionalCall, if_pos rfl, push16_eq_writeAll]
  rfl

theorem conditionalCall_false (a : Word) : conditionalCall false a s = .next (Claims.advanced 3 s) := by
  rw [conditionalCall, if_neg Bool.false_ne_true, seq_eq_advanced]

theorem restart_eq_writeAll (n : BitVec 3) :
    restart n s = { writeAll s (Claims.pushWrites s (s.pc + 1)) with sp := s.sp - 2, pc := rstVector n } := by
  rw [restart, push16_eq_writeAll]
  rfl

end

end Sys2Proof.Machine

namespace Sys2Proof.Claims
open Sys2Proof.Machine

section
variable (s : State)

theorem exec_jumpForms (a16 : Word) : ∀ f ∈ jumpForms a16,
    encode f.instr = f.bytes ∧ exec f.instr s = conditionalJump (f.taken s.flags) a16 s := by
  intro f hf
  fin_cases hf <;> exact ⟨rfl, rfl⟩

theorem exec_callForms (a16 : Word) : ∀ f ∈ callForms a16,
    encode f.instr = f.bytes ∧ exec f.instr s = conditionalCall (f.taken s.flags) a16 s := by
  intro f hf
  fin_cases hf <;> exact ⟨rfl, rfl⟩

theorem exec_returnForms : ∀ f ∈ returnForms,
    encode f.instr = f.bytes ∧ exec f.instr s = conditionalReturn (f.taken s.flags) s := by
  intro f hf
  fin_cases hf <;> exact ⟨rfl, rfl⟩

theorem exec_restartForms : ∀ f ∈ restartForms,
    encode f.1 = [f.2.1] ∧ exec f.1 s = .next (restart (BitVec.ofNat 3 f.2.2) s) := by
  intro f hf
  fin_cases hf <;> exact ⟨rfl, rfl⟩

end

theorem rstVector_restartForms : ∀ f ∈ restartForms, rstVector (BitVec.ofNat 3 f.2.2) = BitVec.ofNat 16 (8 * f.2.2) := by
  decide

/-- Settles O31: every form is `conditionalCall` of its condition, which pushes PC + 3 when taken. -/
theorem callsPushTheReturnAddress : Obligations.CallsPushTheReturnAddress := by
  unfold Obligations.CallsPushTheReturnAddress
  intro a16 f hf s
  obtain ⟨hbytes, hexec⟩ := exec_callForms s a16 f hf
  refine ⟨hbytes, fun htaken => stores_of_exec ?taken, fun hnot => ?notTaken⟩
  case taken => rw [hexec, htaken, conditionalCall_true]
  case notTaken => rw [hexec, hnot, conditionalCall_false]

/-- Settles O33: every form is `restart` of its number, whose vector is 8 times the number. -/
theorem restartsCallTheirVector : Obligations.RestartsCallTheirVector := by
  unfold Obligations.RestartsCallTheirVector
  intro f hf s
  obtain ⟨hbytes, hexec⟩ := exec_restartForms s f hf
  rw [restart_eq_writeAll, rstVector_restartForms f hf] at hexec
  exact ⟨hbytes, stores_of_exec hexec⟩

/-- Settles O34: CALL leaves PC + 3 on top of the stack (`stackTop_push16`), and RET takes the word on top of the stack. -/
theorem callThenReturnResumes : Obligations.CallThenReturnResumes := by
  unfold Obligations.CallThenReturnResumes
  intro a16 s hstored
  have hcall : exec (.call a16) s = .next ((push16 (s.pc + 3) s).setPc a16) := rfl
  refine ⟨_, hcall, rfl, fun v hv => ?_⟩
  obtain ⟨hsp, htop⟩ := hv
  have hpushed : stackTop v = s.pc + 3 := htop.trans (stackTop_push16 _ hstored)
  have hret : exec .ret v = .next { v with pc := stackTop v, sp := v.sp + 2 } := conditionalReturn_eq_advanced v true
  have hback : v.sp + 2 = s.sp := by rw [hsp, State.setPc_sp, push16_sp, BitVec.sub_add_cancel]
  exact ⟨_, hret, hpushed, hback⟩

/-- Settles O30: every form is `conditionalJump` of its condition. -/
theorem jumpsGoToTheirTarget : Obligations.JumpsGoToTheirTarget := by
  unfold Obligations.JumpsGoToTheirTarget
  intro a16 f hf s
  obtain ⟨hbytes, hexec⟩ := exec_jumpForms s a16 f hf
  exact ⟨hbytes, hexec.trans (conditionalJump_eq_advanced ..)⟩

/-- Settles O32: every form is `conditionalReturn` of its condition. -/
theorem returnsPopTheirAddress : Obligations.ReturnsPopTheirAddress := by
  unfold Obligations.ReturnsPopTheirAddress
  intro f hf s
  obtain ⟨hbytes, hexec⟩ := exec_returnForms s f hf
  exact ⟨hbytes, hexec.trans (conditionalReturn_eq_advanced ..)⟩

end Sys2Proof.Claims
end

section
namespace Sys2Proof.Machine

/-! ### The packed flags byte in the terms of the statements (R29) -/

theorem flagsByte_eq_pswByte (f : Flags) : flagsByte f = Claims.pswByte f := by
  have hall : ∀ s z ac p cy : Bool, flagsByte ⟨s, z, ac, p, cy⟩ = Claims.pswByte ⟨s, z, ac, p, cy⟩ := by decide
  exact hall f.s f.z f.ac f.p f.cy

theorem flagsOfByte_flagsByte (f : Flags) : flagsOfByte (flagsByte f) = f := by
  have hall : ∀ s z ac p cy : Bool, flagsOfByte (flagsByte ⟨s, z, ac, p, cy⟩) = ⟨s, z, ac, p, cy⟩ := by decide
  exact hall f.s f.z f.ac f.p f.cy

theorem flagsOfByte_eq_flagsFromByte (v : Byte) : flagsOfByte v = Claims.flagsFromByte v := rfl

/-! ### The shapes of PUSH and POP (R220 to R223) -/

section
variable (s : State)

theorem seq_push16_eq_advanced (v : Word) :
    seq 1 (push16 v s) = Claims.advanced 1 { writeAll s (Claims.pushWrites s v) with sp := s.sp - 2 } := by
  rw [seq_eq_advanced, push16_eq_writeAll]

/-- The popped pair is not SP, whose own write would undo the increment. -/
theorem popPair_eq_advanced {x : Pair} (hx : x ≠ .sp) :
    popPair x s = .next (Claims.advanced 1 { Claims.putPair s x (Claims.stackTop s) with sp := s.sp + 2 }) := by
  rw [popPair, seq_eq_advanced, writePair_eq_putPair]
  cases x with
  | sp => exact absurd rfl hx
  | bc | de | hl => rfl

theorem popFlagsAndA_eq_advanced :
    popFlagsAndA s = .next (Claims.advanced 1
      { s with
        regs := { s.regs with a := hiByte (Claims.stackTop s) }
        flags := Claims.flagsFromByte (loByte (Claims.stackTop s))
        sp := s.sp + 2 }) := by
  rw [popFlagsAndA, seq_eq_advanced, flagsOfByte_eq_flagsFromByte]
  rfl

end

/-- A later state with the stack top that a stored push left pops the pushed word and gets SP back. -/
theorem stackTop_after_push {s v : State} {w : Word} (hstored : Claims.pushStored s)
    (hv : Claims.SameStackTop (seq 1 (push16 w s)) v) : Claims.stackTop v = w ∧ v.sp + 2 = s.sp := by
  obtain ⟨hsp, htop⟩ := hv
  constructor
  · rw [htop, Claims.stackTop, seq_mem, seq_sp]
    exact stackTop_push16 w hstored
  · rw [hsp, seq_sp, push16_sp, BitVec.sub_add_cancel]

end Sys2Proof.Machine

namespace Sys2Proof.Claims
open Sys2Proof.Machine

@[simp] theorem advanced_sp (n : Nat) (s : State) : (advanced n s).sp = s.sp := by
  rw [← seq_eq_advanced, seq_sp]

section
variable (s : State)

theorem pairOf_advanced (n : Nat) (x : Pair) : pairOf (advanced n s) x = pairOf s x := by
  cases x <;> simp only [pairOf, advanced_regs, advanced_sp]

theorem pairOf_putPair_setSp {x : Pair} (hx : x ≠ .sp) (v p : Word) : pairOf { putPair s x v with sp := p } x = v := by
  rw [← writePair_eq_putPair]
  cases x with
  | sp => exact absurd rfl hx
  | bc | de | hl => exact joinBytes_hiByte_loByte v

theorem exec_pushForms : ∀ f ∈ pushForms,
    encode f.instr = f.bytes ∧ exec f.instr s = .next (seq 1 (push16 (pairOf s f.pair) s)) := by
  intro f hf
  fin_cases hf <;> exact ⟨rfl, rfl⟩

theorem exec_popForms : ∀ f ∈ popForms,
    f.pair ≠ .sp ∧ encode f.instr = f.bytes ∧ exec f.instr s = popPair f.pair s := by
  intro f hf
  fin_cases hf <;> exact ⟨nofun, rfl, rfl⟩

theorem exec_pushPopForms : ∀ f ∈ pushPopForms, f.2.2 ≠ .sp ∧
    exec f.1 s = .next (seq 1 (push16 (pairOf s f.2.2) s)) ∧ ∀ v, exec f.2.1 v = popPair f.2.2 v := by
  intro f hf
  fin_cases hf <;> exact ⟨nofun, rfl, fun _ => rfl⟩

theorem exec_pushPsw :
    exec .pushPsw s = .next (seq 1 (push16 (joinBytes s.regs.a (flagsByte s.flags)) s)) := rfl

end

/-- Settles O35: every form is a push of its word, which makes its two writes in order. -/
theorem pushesStoreTheirWord : Obligations.PushesStoreTheirWord := by
  unfold Obligations.PushesStoreTheirWord
  intro s
  refine ⟨fun f hf => ?pairs, rfl, stores_of_exec ?psw⟩
  case pairs =>
    obtain ⟨hbytes, hexec⟩ := exec_pushForms s f hf
    rw [seq_push16_eq_advanced] at hexec
    exact ⟨hbytes, stores_of_exec hexec⟩
  case psw => rw [exec_pushPsw, seq_push16_eq_advanced, flagsByte_eq_pswByte]

/-- Settles O36: every form is `popPair` of its pair, POP PSW is `popFlagsAndA`. -/
theorem popsLoadTheirWord : Obligations.PopsLoadTheirWord := by
  unfold Obligations.PopsLoadTheirWord
  intro s
  refine ⟨fun f hf => ?_, rfl, popFlagsAndA_eq_advanced s⟩
  obtain ⟨hx, hbytes, hexec⟩ := exec_popForms s f hf
  exact ⟨hbytes, hexec.trans (popPair_eq_advanced s hx)⟩

/-- Settles O37: the pop takes the pushed word (`stackTop_after_push`); the five flags survive packing. -/
theorem pushThenPopRestores : Obligations.PushThenPopRestores := by
  unfold Obligations.PushThenPopRestores
  intro s hstored
  refine ⟨fun f hf => ?pairs, _, exec_pushPsw s, fun v hv => ?psw⟩
  case pairs =>
    obtain ⟨hx, hpush, hpop⟩ := exec_pushPopForms s f hf
    refine ⟨_, hpush, fun v hv => ?_⟩
    obtain ⟨htop, hsp⟩ := stackTop_after_push hstored hv
    refine ⟨_, (hpop v).trans (popPair_eq_advanced v hx), ?_, (advanced_sp ..).trans hsp⟩
    rw [pairOf_advanced, pairOf_putPair_setSp v hx, htop]
  case psw =>
    obtain ⟨htop, hsp⟩ := stackTop_after_push hstored hv
    refine ⟨_, popFlagsAndA_eq_advanced v, ?_, ?_, (advanced_sp ..).trans hsp⟩
    · rw [advanced_regs, htop, hiByte_joinBytes]
    · rw [advanced_flags, htop, loByte_joinBytes, ← flagsOfByte_eq_flagsFromByte, flagsOfByte_flagsByte]

end Sys2Proof.Claims
end

section
namespace Sys2Proof.Machine

/-! ### The control instructions (R230 to R236) -/

theorem not_eq_ofNat (v : Byte) : ~~~v = BitVec.ofNat 8 (255 - v.toNat) := by
  have hnot : (~~~v).toNat = 255 - v.toNat := BitVec.toNat_not
  rw [← hnot, BitVec.ofNat_toNat, BitVec.setWidth_eq]

/-- An instruction that advances past its one byte, in the terms of the statements (R88). -/
theorem exec_eq_advanced {i : Instr} {s t : State} (hexec : exec i s = .next (seq 1 t)) :
    exec i s = .next (Claims.advanced 1 t) := by
  rw [hexec, seq_eq_advanced]

theorem exec_cma (s : State) : exec .cma s = .next (seq 1 (s.setA (~~~s.regs.a))) := rfl

end Sys2Proof.Machine

namespace Sys2Proof.Claims
open Sys2Proof.Machine

/-- Settles O39: each of the seven changes at most one field and advances by `seq`; the complement of A is 255 - A. -/
theorem controlInstructions : Obligations.ControlInstructions := by
  unfold Obligations.ControlInstructions
  refine fun s => ⟨rfl, exec_eq_advanced ?nop, rfl, exec_eq_advanced ?hlt, rfl, exec_eq_advanced ?di,
    rfl, exec_eq_advanced ?ei, rfl, exec_eq_advanced ?cma, rfl, exec_eq_advanced ?cmc, rfl, exec_eq_advanced ?stc⟩
  case cma =>
    rw [exec_cma, not_eq_ofNat]
    rfl
  case nop | hlt | di | ei | cmc | stc => rfl

end Sys2Proof.Claims
end

section
namespace Sys2Proof.Machine

/-! ### Interrupt acceptance in the terms of the statements (R262, R264) -/

section
variable {id : Nat} {n : BitVec 3} {s : State}

theorem raiseInterrupt_of_mapped (hinte : s.inte = true) (hmap : s.cfg.intVectorMap.lookup id = some n) :
    raiseInterrupt id s = .next (acceptInterrupt n s) := by
  rw [raiseInterrupt, if_pos hinte, hmap]

theorem raiseInterrupt_of_unmapped (hinte : s.inte = true) (hmap : s.cfg.intVectorMap.lookup id = none) :
    raiseInterrupt id s = .refused (.interruptIdNotMapped id) := by
  rw [raiseInterrupt, if_pos hinte, hmap]

end

section
variable (n : BitVec 3) (s : State)

/-- The state from which an acceptance restarts (R262): interrupts disabled, PC stepped back by one. -/
def steppedBack : State := { s with inte := false, pc := s.pc - 1 }

theorem rstVector_eq : rstVector n = BitVec.ofNat 16 (8 * n.toNat) := by
  rw [rstVector, Nat.mul_comm]

/-- The restart's own PC + 1 undoes the step back, so an acceptance pushes the interrupted PC. -/
theorem acceptInterrupt_eq_push16 :
    acceptInterrupt n s =
      { push16 s.pc (steppedBack s) with
        pc := rstVector n
        halted := !s.cfg.haltWake && (push16 s.pc (steppedBack s)).halted } := by
  have hrestart : restart n ((s.setInte false).setPc (s.pc - 1)) =
      (push16 s.pc (steppedBack s)).setPc (rstVector n) := by
    rw [restart, State.setPc_pc, BitVec.sub_add_cancel]
    rfl
  rw [acceptInterrupt, hrestart]
  cases s.cfg.haltWake <;> rfl

end

/-- An acceptance of which both pushed bytes are stored leaves the interrupted PC on top of the stack. -/
theorem stackTop_acceptInterrupt {s : State} (n : BitVec 3) (hstored : Claims.pushStored s) :
    Claims.stackTop (acceptInterrupt n s) = s.pc := by
  rw [acceptInterrupt_eq_push16]
  exact stackTop_push16 (s := steppedBack s) s.pc hstored

theorem exec_ret (s : State) : exec .ret s = .next { s with pc := Claims.stackTop s, sp := s.sp + 2 } :=
  conditionalReturn_eq_advanced s true

end Sys2Proof.Machine

namespace Sys2Proof.Claims
open Sys2Proof.Machine

/-- Settles O55: an acceptance is a push of the interrupted PC from the stepped-back state (`acceptInterrupt_eq_push16`),
whose PC the reports name. -/
theorem acceptanceEntersTheVector : Obligations.AcceptanceEntersTheVector := by
  unfold Obligations.AcceptanceEntersTheVector
  intro id s hinte
  refine ⟨fun n hmap => ?mapped, raiseInterrupt_of_unmapped hinte⟩
  case mapped =>
    obtain ⟨m, hread, hstate⟩ := writeAll_eq_written (steppedBack s) (pushWrites s s.pc)
    have hpush : push16 s.pc (steppedBack s) =
        { written (steppedBack s) (pushWrites s s.pc) m with sp := s.sp - 2 } := by
      rw [← hstate]
      rfl
    refine ⟨m, hread, ?_⟩
    rw [raiseInterrupt_of_mapped hinte hmap, acceptInterrupt_eq_push16, hpush, rstVector_eq]
    rfl

/-- Settles O56: the acceptance leaves the interrupted PC on top of the stack (`stackTop_acceptInterrupt`), and RET takes
the word on top of the stack. -/
theorem interruptThenReturnResumes : Obligations.InterruptThenReturnResumes := by
  unfold Obligations.InterruptThenReturnResumes
  intro id n s hinte hmap hstored
  obtain ⟨hregs, hflags, hdisabled, hsp, hpc, -⟩ := acceptInterrupt_fields n s
  refine ⟨_, raiseInterrupt_of_mapped hinte hmap, hdisabled, hpc.trans (rstVector_eq n), hregs, hflags, fun v hv => ?_⟩
  obtain ⟨hvsp, htop⟩ := hv
  have hpopped : stackTop v = s.pc := htop.trans (stackTop_acceptInterrupt n hstored)
  have hback : v.sp + 2 = s.sp := by rw [hvsp, hsp, BitVec.sub_add_cancel]
  exact ⟨_, exec_ret v, hpopped, hback⟩

end Sys2Proof.Claims
end

section
namespace Sys2Proof.Machine

/-! ### The host's memory access in the terms of the statements (R76) -/

section
variable {a : Nat} (s : State)

theorem hostReadMemory_of_lt (h : a < memSize) : hostReadMemory a s = .ok (s.mem.read a) := by
  have hmod : a % 2 ^ 16 = a := Nat.mod_eq_of_lt h
  rw [hostReadMemory, if_pos h, memRead, BitVec.toNat_ofNat, hmod]

theorem hostReadMemory_of_le (h : memSize ≤ a) : hostReadMemory a s = .error (.hostReadOutOfRange a) := by
  rw [hostReadMemory, if_neg (Nat.not_lt.mpr h)]

end

end Sys2Proof.Machine

namespace Sys2Proof.Claims
open Sys2Proof.Machine

/-- Settles O57: a host write is one write under the write policy (`writeAll_eq_written` of a single write); the latch and
counter calls write their own field. -/
theorem hostMemoryAccess : Obligations.HostMemoryAccess := by
  unfold Obligations.HostMemoryAccess
  refine ⟨fun _ s h => hostReadMemory_of_lt s h, fun _ s h => hostReadMemory_of_le s h, fun a v s => ?write,
    fun i v s => rfl, fun s => rfl⟩
  case write =>
    obtain ⟨m, hread, hstate⟩ := writeAll_eq_written s [(a, v)]
    exact ⟨m, hread, congrArg _ hstate⟩

end Sys2Proof.Claims
end

section
namespace Sys2Proof.Machine

/-! ### An earlier log and an earlier cycle count change no step (R37, R38, R270) -/

/-- `s` as it is after an earlier history: the reports `d` stand before its own, `k` cycles were counted before its own. -/
def State.withHistory (d : List Report) (k : Nat) (s : State) : State := { s with diag := d ++ s.diag, cyc := k + s.cyc }

/-- `s` with no report and no cycle counted. -/
def State.withoutHistory (s : State) : State := { s with diag := [], cyc := 0 }

/-- An answer whose next state, if it has one, is the one after an earlier history. -/
def answerWithHistory (d : List Report) (k : Nat) : Result → Result
  | .next t => .next (t.withHistory d k)
  | .fault r => .fault r
  | .refused r => .refused r

theorem withoutHistory_withHistory (d : List Report) (k : Nat) (s : State) :
    s.withoutHistory.withHistory d k = { s with diag := d, cyc := k } := by
  rw [State.withHistory, State.withoutHistory, List.append_nil, Nat.add_zero]

section
variable {d : List Report} {k : Nat}

theorem withHistory_report (r : Report) (s : State) : (s.report r).withHistory d k = (s.withHistory d k).report r := by
  simp only [State.withHistory, State.report, List.append_assoc]

theorem withHistory_raiseHalting (r : Report) (s : State) :
    (raiseHalting r s).withHistory d k = raiseHalting r (s.withHistory d k) :=
  congrArg (State.setHalted · true) (withHistory_report r s)

theorem withHistory_seq (n : Nat) (s : State) : (seq n s).withHistory d k = seq n (s.withHistory d k) := by
  simp only [seq_eq, State.withHistory, List.append_assoc]
  rfl

theorem withHistory_memWrite (a : Nat) (v : Byte) (s : State) :
    (memWrite a v s).withHistory d k = memWrite a v (s.withHistory d k) := by
  simp only [memWrite_eq, State.withHistory, List.append_assoc]
  rfl

theorem withHistory_write16 (a v : Word) (s : State) :
    (write16 a v s).withHistory d k = write16 a v (s.withHistory d k) := by
  rw [write16, withHistory_memWrite, withHistory_memWrite]
  rfl

theorem withHistory_push16 (v : Word) (s : State) : (push16 v s).withHistory d k = push16 v (s.withHistory d k) := by
  have hbytes : (memWrite (s.sp - 2).toNat (loByte v) (memWrite (s.sp - 1).toNat (hiByte v) s)).withHistory d k =
      memWrite (s.sp - 2).toNat (loByte v) (memWrite (s.sp - 1).toNat (hiByte v) (s.withHistory d k)) := by
    rw [withHistory_memWrite, withHistory_memWrite]
  exact congrArg (State.setSp · (s.sp - 2)) hbytes

theorem withHistory_restart (n : BitVec 3) (s : State) : (restart n s).withHistory d k = restart n (s.withHistory d k) :=
  congrArg (State.setPc · (rstVector n)) (withHistory_push16 (s.pc + 1) s)

/-- An answer that ends with the sequential advance is the one after the history when the state before the advance is. -/
theorem answerWithHistory_seq {n : Nat} {t u : State} (h : t.withHistory d k = u) :
    answerWithHistory d k (.next (seq n t)) = .next (seq n u) := by
  subst h
  exact congrArg _ (withHistory_seq n t)

theorem answerWithHistory_conditionalJump (c : Bool) (a : Word) (s : State) :
    answerWithHistory d k (conditionalJump c a s) = conditionalJump c a (s.withHistory d k) := by
  cases c with
  | false => exact answerWithHistory_seq rfl
  | true => rfl

theorem answerWithHistory_conditionalCall (c : Bool) (a : Word) (s : State) :
    answerWithHistory d k (conditionalCall c a s) = conditionalCall c a (s.withHistory d k) := by
  cases c with
  | false => exact answerWithHistory_seq rfl
  | true => exact congrArg (fun t => Host.Outcome.next (t.setPc a)) (withHistory_push16 (s.pc + 3) s)

theorem answerWithHistory_conditionalReturn (c : Bool) (s : State) :
    answerWithHistory d k (conditionalReturn c s) = conditionalReturn c (s.withHistory d k) := by
  cases c with
  | false => exact answerWithHistory_seq rfl
  | true => rfl

theorem answerWithHistory_execInp (p : Byte) (s : State) :
    answerWithHistory d k (execInp p s) = execInp p (s.withHistory d k) := by
  have hport : portIn p (s.withHistory d k) = portIn p s := rfl
  rw [execInp, execInp, hport]
  cases portIn p s with
  | none => rfl
  | some v => exact answerWithHistory_seq rfl

theorem portOut_withHistory (p v : Byte) (s : State) :
    portOut p v (s.withHistory d k) = (portOut p v s).map (State.withHistory d k) := by
  unfold portOut
  split <;> rfl

theorem answerWithHistory_execOut (p : Byte) (s : State) :
    answerWithHistory d k (execOut p s) = execOut p (s.withHistory d k) := by
  have hport : portOut p (s.withHistory d k).regs.a (s.withHistory d k) =
      (portOut p s.regs.a s).map (State.withHistory d k) := portOut_withHistory p s.regs.a s
  rw [execOut, execOut, hport]
  cases portOut p s.regs.a s with
  | none => rfl
  | some t => exact answerWithHistory_seq rfl

/-- The answer of an instruction after an earlier history is its answer without it, after that history. But for the writes,
pushes, branches, ports and illegal bytes, an instruction updates registers, flags, INTE or HALTED and then advances. -/
theorem exec_withHistory (i : Instr) (s : State) :
    answerWithHistory d k (exec i s) = exec i (s.withHistory d k) := by
  cases i
  case movMB | movMC | movMD | movME | movMH | movML | movMA | mviM | staxB | staxD | sta =>
    exact answerWithHistory_seq (withHistory_memWrite ..)
  case inrM | dcrM => exact answerWithHistory_seq (congrArg (State.setFlags · _) (withHistory_memWrite ..))
  case shld => exact answerWithHistory_seq (withHistory_write16 ..)
  case xthl => exact answerWithHistory_seq (congrArg (writePair .hl _) (withHistory_write16 ..))
  case pushB | pushD | pushH | pushPsw => exact answerWithHistory_seq (withHistory_push16 ..)
  case rst0 | rst1 | rst2 | rst3 | rst4 | rst5 | rst6 | rst7 => exact congrArg _ (withHistory_restart ..)
  case jnz | jmp | jz | jnc | jc | jpo | jpe | jp | jm => exact answerWithHistory_conditionalJump ..
  case cnz | cz | call | cnc | cc | cpo | cpe | cp | cm => exact answerWithHistory_conditionalCall ..
  case rnz | rz | ret | rnc | rc | rpo | rpe | rp | rm => exact answerWithHistory_conditionalReturn ..
  case inp => exact answerWithHistory_execInp ..
  case out => exact answerWithHistory_execOut ..
  case illegal08 | illegal10 | illegal18 | illegal20 | illegal28 | illegal30 | illegal38 | illegalcb | illegald9
      | illegaldd | illegaled | illegalfd => exact congrArg _ (withHistory_raiseHalting ..)
  case pchl => rfl
  all_goals exact answerWithHistory_seq rfl

theorem account_withHistory (i : Instr) (t : State) :
    (account i t).withHistory d k = account i (t.withHistory d k) := by
  unfold account
  split
  · rfl
  · simp only [addCycles, State.setCyc, State.withHistory, Nat.add_assoc]

theorem accountResult_withHistory (i : Instr) (x : Result) :
    answerWithHistory d k (accountResult i x) = accountResult i (answerWithHistory d k x) := by
  cases x with
  | next t => exact congrArg _ (account_withHistory i t)
  | fault r => rfl
  | refused r => rfl

/-- A step after an earlier history answers what it answers without it, after that history. -/
theorem step_withHistory (s : State) : answerWithHistory d k (step s) = step (s.withHistory d k) := by
  have hfetch : fetchInstr (s.withHistory d k) = fetchInstr s := rfl
  cases hs : s.halted with
  | true =>
    have hs' : (s.withHistory d k).halted = true := hs
    rw [step_of_halted hs, step_of_halted hs']
    rfl
  | false =>
    have hs' : (s.withHistory d k).halted = false := hs
    cases hi : fetchInstr s with
    | error e =>
      rw [step_of_fetch_error hs hi, step_of_fetch_error hs' (hfetch.trans hi)]
      exact congrArg _ (withHistory_raiseHalting ..)
    | ok p =>
      rw [step_of_fetch hs hi, step_of_fetch hs' (hfetch.trans hi), accountResult_withHistory, exec_withHistory]

end

/-- What a step answers is what it answers with no history, after whatever history the state has. -/
theorem step_eq_answerWithHistory (s : State) (d : List Report) (k : Nat) :
    step { s with diag := d, cyc := k } = answerWithHistory d k (step s.withoutHistory) := by
  rw [step_withHistory, withoutHistory_withHistory]

end Sys2Proof.Machine

namespace Sys2Proof.Claims
open Sys2Proof.Machine

/-- Settles O53: both steps are the step of the state with no history, each after its own history. -/
theorem theCoreNeverReadsItsLogOrItsCounter : Obligations.TheCoreNeverReadsItsLogOrItsCounter := by
  unfold Obligations.TheCoreNeverReadsItsLogOrItsCounter
  intro s d n
  have hs : step s = answerWithHistory s.diag s.cyc (step s.withoutHistory) := step_eq_answerWithHistory s s.diag s.cyc
  have hd : step { s with diag := d, cyc := n } = answerWithHistory d n (step s.withoutHistory) :=
    step_eq_answerWithHistory s d n
  rw [hd, hs]
  cases step s.withoutHistory with
  | next u =>
    refine ⟨fun t ht => ?_, nofun, nofun⟩
    cases ht
    exact ⟨u.diag, u.cyc, rfl, rfl, rfl⟩
  | fault r => exact ⟨fun _ h => (nomatch h), fun _ => id, nofun⟩
  | refused r => exact ⟨fun _ h => (nomatch h), nofun, fun _ => id⟩

end Sys2Proof.Claims
end

section
namespace Sys2Proof.Machine

/-! ### What a step reads at PC, and its accounting (R59, R81, R82, R87) -/

theorem bytesFrom_length (m : Memory) (n a : Nat) : (bytesFrom m n a).length = min n (memSize - a) := by
  induction n generalizing a with
  | zero => rw [bytesFrom, List.length_nil, Nat.zero_min]
  | succ n ih =>
    rw [bytesFrom]
    split
    · rw [List.length_cons, ih]
      omega
    · rw [List.length_nil]
      omega

/-- The first byte fetched is the one at PC, which is always inside the 64 KiB. -/
theorem fetchBytes_eq_cons (s : State) :
    fetchBytes s = s.mem.read s.pc.toNat :: bytesFrom s.mem 2 (s.pc.toNat + 1) := if_pos s.pc.isLt

/-- An opcode whose instruction would extend past 0xFFFF is rejected as truncated (R87). -/
theorem fetchInstr_of_straddle {s : State}
    (h : memSize < s.pc.toNat + Claims.opcodeLength (s.mem.read s.pc.toNat)) :
    fetchInstr s = .error (.truncated (s.mem.read s.pc.toNat)) := by
  obtain ⟨hreject, -⟩ := Claims.lengthIsAFunctionOfTheOpcode (s.mem.read s.pc.toNat) (bytesFrom s.mem 2 (s.pc.toNat + 1))
  rw [fetchInstr, fetchBytes_eq_cons]
  apply hreject
  rw [bytesFrom_length]
  have hleft : min 2 (memSize - (s.pc.toNat + 1)) ≤ memSize - (s.pc.toNat + 1) := Nat.min_le_right ..
  have hpc : s.pc.toNat < memSize := s.pc.isLt
  omega

theorem encode_eq_opcodeOf_cons (i : Instr) : ∃ operands, encode i = opcodeOf i :: operands := by
  cases i <;> exact ⟨_, rfl⟩

/-- The opcode byte of the fetched instruction is the byte at PC. -/
theorem opcodeOf_of_fetchInstr {s : State} {i : Instr} {rest : List Byte} (h : fetchInstr s = .ok (i, rest)) :
    opcodeOf i = s.mem.read s.pc.toNat := by
  obtain ⟨operands, hop⟩ := encode_eq_opcodeOf_cons i
  have hbytes := encode_append_of_decode h
  rw [hop, fetchBytes_eq_cons] at hbytes
  exact (List.cons.inj hbytes).1

section
variable {i : Instr} (s : State)

theorem account_of_legal (h : isIllegal (opcodeOf i) = false) : account i s = addCycles (opcodeOf i) s := by
  rw [account, h]
  rfl

theorem account_of_illegal (h : isIllegal (opcodeOf i) = true) : account i s = s := by
  rw [account, h]
  rfl

end

end Sys2Proof.Machine

namespace Sys2Proof.Claims
open Sys2Proof.Machine

/-- Settles O5: a step is the fetched instruction and its accounting (`step_of_fetch`), a case per legality of the opcode. -/
theorem stepRunsTheDecodedInstruction : Obligations.StepRunsTheDecodedInstruction := by
  unfold Obligations.StepRunsTheDecodedInstruction
  intro s i rest hs hi
  rw [step_of_fetch hs hi]
  refine ⟨fun t ht hlegal => ?legal, fun t ht hillegal => ?illegal, fun r hr => ?refused⟩
  case legal =>
    rw [ht, accountResult, account_of_legal t hlegal]
    rfl
  case illegal => rw [ht, accountResult, account_of_illegal t hillegal]
  case refused => rw [hr, accountResult]

/-- Settles O7: the bytes that exist are too few for the opcode, so the step is the overflow of R87. -/
theorem straddlingInstructionIsNotExecuted : Obligations.StraddlingInstructionIsNotExecuted := by
  unfold Obligations.StraddlingInstructionIsNotExecuted
  intro s hs hlong
  rw [step_of_fetch_error hs (fetchInstr_of_straddle hlong), straddleOverflow_eq]

/-- Settles O52: moves keep CYC and IN_LATCH, and the accounting adds the cost of the byte at PC or nothing. -/
theorem cyclesOnlyAddUpThroughSteps : Obligations.CyclesOnlyAddUpThroughSteps := by
  unfold Obligations.CyclesOnlyAddUpThroughSteps
  intro s t h
  obtain ⟨-, ⟨e, -, rfl⟩ | ⟨i, rest, u, hi, hu, rfl⟩⟩ := step_cases h
  · exact ⟨.inl rfl, rfl⟩
  · have hm : Moves s u := exec_next_moves hu
    rw [← hm.cyc, ← hm.inLatch, ← hm.cfg]
    simp only [← opcodeOf_of_fetchInstr hi]
    cases hlegal : isIllegal (opcodeOf i) with
    | true =>
      rw [account_of_illegal u hlegal]
      exact ⟨.inl rfl, rfl⟩
    | false =>
      rw [account_of_legal u hlegal]
      exact ⟨.inr rfl, rfl⟩

theorem exec_illegalForms : ∀ f ∈ illegalForms, ∀ s : State,
    encode f.1 = [f.2] ∧ isIllegal (opcodeOf f.1) = true ∧ exec f.1 s = .next (fatalDecodeError f.2 s) := by
  intro f hf s
  fin_cases hf <;> exact ⟨rfl, rfl, rfl⟩

/-- Settles O9: each of the bytes is its own encoding, so the decoder reads it back, and it adds no cycles. -/
theorem illegalByteRaisesFatalDecodeError : Obligations.IllegalByteRaisesFatalDecodeError := by
  unfold Obligations.IllegalByteRaisesFatalDecodeError
  intro f hf s
  obtain ⟨hbytes, hillegal, hexec⟩ := exec_illegalForms f hf s
  rw [fatalDecodeError_eq] at hexec
  refine ⟨hbytes, hexec, fun hs hread => ?_⟩
  have hfetch : fetchBytes s = encode f.1 ++ bytesFrom s.mem 2 (s.pc.toNat + 1) := by
    rw [hbytes, ← hread]
    exact fetchBytes_eq_cons s
  have hi : fetchInstr s = .ok (f.1, bytesFrom s.mem 2 (s.pc.toNat + 1)) := by
    rw [fetchInstr, hfetch, decode_encode_append]
  rw [step_of_fetch hs hi, hexec, accountResult, account_of_illegal _ hillegal]

end Sys2Proof.Claims
end

section
namespace Sys2Proof.Machine

/-! ### The instructions that leave memory alone (R52, R251) -/

/-- A next state, if there is one, has the memory of `s`. -/
def AnswersMemory (s : State) : Result → Prop
  | .next t => t.mem = s.mem
  | .fault _ => True
  | .refused _ => True

section
variable (s : State)

theorem conditionalJump_memory (c : Bool) (a : Word) : AnswersMemory s (conditionalJump c a s) := by
  cases c with
  | false => exact seq_mem 3 s
  | true => rfl

theorem conditionalReturn_memory (c : Bool) : AnswersMemory s (conditionalReturn c s) := by
  cases c with
  | false => exact seq_mem 1 s
  | true => rfl

theorem execInp_memory (p : Byte) : AnswersMemory s (execInp p s) := by
  unfold execInp
  split
  · exact seq_mem 2 _
  · trivial

theorem portOut_mem {p v : Byte} {t : State} (h : portOut p v s = some t) : t.mem = s.mem := by
  unfold portOut at h
  split at h <;> cases h <;> rfl

theorem execOut_memory (p : Byte) : AnswersMemory s (execOut p s) := by
  unfold execOut
  split
  · rename_i t ht
    exact (seq_mem 2 t).trans (portOut_mem s ht)
  · trivial

end

/-- Every opcode outside the list of R52 leaves memory alone: but for the branches, the ports and the illegal bytes, its
instruction updates registers, flags, INTE or HALTED and ends with the advance, which keeps memory. -/
theorem exec_memory {i : Instr} (h : Claims.storesToMemory (opcodeOf i).toNat = false) (s : State) :
    AnswersMemory s (exec i s) := by
  cases i
  case movMB | movMC | movMD | movME | movMH | movML | movMA | mviM | staxB | staxD | sta | shld | xthl | inrM | dcrM
      | pushB | pushD | pushH | pushPsw | cnz | cz | call | cnc | cc | cpo | cpe | cp | cm | rst0 | rst1 | rst2 | rst3
      | rst4 | rst5 | rst6 | rst7 =>
    simp [opcodeOf, encode, Claims.storesToMemory] at h
  case jnz | jmp | jz | jnc | jc | jpo | jpe | jp | jm => exact conditionalJump_memory s _ _
  case rnz | rz | ret | rnc | rc | rpo | rpe | rp | rm => exact conditionalReturn_memory s _
  case inp => exact execInp_memory s _
  case out => exact execOut_memory s _
  case pchl | illegal08 | illegal10 | illegal18 | illegal20 | illegal28 | illegal30 | illegal38 | illegalcb | illegald9
      | illegaldd | illegaled | illegalfd => rfl
  all_goals exact seq_mem _ _

end Sys2Proof.Machine

namespace Sys2Proof.Claims
open Sys2Proof.Machine

/-- Settles O44: the whole memory is the same (`exec_memory`), so every byte of it is. -/
theorem onlyTheListedInstructionsStore : Obligations.OnlyTheListedInstructionsStore := by
  unfold Obligations.OnlyTheListedInstructionsStore
  intro i s t hi h a
  have hmem : AnswersMemory s (exec i s) := exec_memory hi s
  rw [h] at hmem
  exact congrArg (Memory.read · a) hmem

end Sys2Proof.Claims
end

section
namespace Sys2Proof.Machine

/-! ### The input ports (R66, R70, R240) -/

section
variable {p : Byte} (s : State)

theorem portIn_latch (h : p.toNat < 3) : portIn p s = some (s.inLatch[p.toNat]'(by omega)) := by
  have hp : p.toNat = 0 ∨ p.toNat = 1 ∨ p.toNat = 2 := by omega
  unfold portIn
  rcases hp with hp | hp | hp <;> simp only [hp]

theorem portIn_window (h : p.toNat = 3) : portIn p s = some (shiftRead s) := by
  rw [portIn, h]
  rfl

theorem portIn_none (h : 4 ≤ p.toNat) : portIn p s = none := by
  unfold portIn
  split
  case h_5 => rfl
  all_goals omega

end

theorem shiftRead_of_literalHigh {s : State} (h : s.cfg.shiftReadMode = .literalHigh) :
    shiftRead s = BitVec.ofNat 8 (s.sr.toNat / 2 ^ (16 - s.soff.toNat)) := by
  rw [shiftRead_eq, h]

theorem exec_inp_refused {p : Byte} {s : State} (h : portIn p s = none) :
    exec (.inp p) s = .refused (.inPortWithoutLatch p) := by
  change execInp p s = _
  rw [execInp, h]

end Sys2Proof.Machine

namespace Sys2Proof.Claims
open Sys2Proof.Machine

/-- Settles O40: each range of ports by its own equation of `portIn`, the window by SHIFT_READ_MODE. -/
theorem inReadsLatchesAndShiftWindow : Obligations.InReadsLatchesAndShiftWindow := by
  unfold Obligations.InReadsLatchesAndShiftWindow
  intro p s
  simp only [← seq_eq_advanced]
  refine ⟨rfl, fun h => ?latch, fun h hmode => ?low, fun h hmode => ?high, fun h => ?refused⟩
  case latch => exact exec_inp_of_portIn (portIn_latch s h)
  case low =>
    rw [← shiftRead_of_low hmode]
    exact exec_inp_of_portIn (portIn_window s h)
  case high =>
    rw [← shiftRead_of_literalHigh hmode]
    exact exec_inp_of_portIn (portIn_window s h)
  case refused => exact exec_inp_refused (portIn_none s h)

/-- Settles O26: DAA adds `daaAddend`, the sum of the two corrections of the statement. -/
theorem daaCorrectsBothNibbles : Obligations.DaaCorrectsBothNibbles := by
  unfold Obligations.DaaCorrectsBothNibbles
  intro s lo hi low high r
  have hr : r = (s.regs.a.toNat + daaAddend s.regs.a s.flags) % 256 := congrArg (· % 256) (Nat.add_assoc ..)
  rw [hr, ofNat_mod_256]
  exact ⟨rfl, decimalAdjust_eq_advanced s⟩

/-- Settles O38: packing and unpacking agree with the numbers of R29; unpacking reads only the bits that packing keeps. -/
theorem packedFlagsByteLayout : Obligations.PackedFlagsByteLayout := by
  unfold Obligations.PackedFlagsByteLayout
  have hrepacked : ∀ v : Byte, flagsByte (flagsOfByte v) = (v &&& 0xD5) ||| 0x02 := by decide
  exact ⟨fun f => ⟨flagsByte_eq_pswByte f, flagsOfByte_flagsByte f⟩,
    fun v => ⟨flagsOfByte_eq_flagsFromByte v, hrepacked v⟩⟩

end Sys2Proof.Claims
end

section
namespace Sys2Proof.Machine

/-! ### Reset, load and a dropped interrupt request (R44, R261, R300, R301) -/

theorem imageCapacity_eq (m : Mode) : imageCapacity m = if m = .arcade then 8192 else 65280 := by
  cases m <;> rfl

theorem loadAddr_toNat (m : Mode) : (loadAddr m).toNat = if m = .arcade then 0x0000 else 0x0100 := by
  cases m <;> rfl

theorem loadAddr_add_imageCapacity_le (m : Mode) : (loadAddr m).toNat + imageCapacity m ≤ memSize := by
  cases m <;> decide

section
variable {cfg : Config} {image : List Byte}

theorem load_of_lt (h : imageCapacity cfg.mode < image.length) : load cfg image = .romTooLarge := if_pos h

theorem load_of_le (h : image.length ≤ imageCapacity cfg.mode) :
    load cfg image = .success ((State.initial cfg).setMem (Memory.ofImage (loadAddr cfg.mode).toNat image)) :=
  if_neg (Nat.not_lt.mpr h)

/-- An image that fits its capacity ends inside the 64 KiB, so its cells are in canonical form. -/
theorem wf_ofImage_of_le (h : image.length ≤ imageCapacity cfg.mode) :
    (Memory.ofImage (loadAddr cfg.mode).toNat image).wf = true := by
  have hfit := loadAddr_add_imageCapacity_le cfg.mode
  exact Memory.wfFrom_ofImage image _ 0 (Nat.zero_le _) (by omega)

end

/-- The contents of memory after a load (R300). -/
theorem read_ofImage_eq (image : List Byte) (base a : Nat) :
    (Memory.ofImage base image).read a = if base ≤ a then image.getD (a - base) 0 else 0 := by
  split
  · next hbase => exact Memory.read_ofImage image base a hbase
  · next hbase => exact Memory.read_ofImage_below image base a (Nat.lt_of_not_le hbase)

theorem raiseInterrupt_of_disabled (id : Nat) {s : State} (h : s.inte = false) : raiseInterrupt id s = .next s := by
  rw [raiseInterrupt, h]
  rfl

end Sys2Proof.Machine

namespace Sys2Proof.Claims
open Sys2Proof.Machine

/-- Settles O59: the bound and the base of the statement are the capacity and LOAD_ADDR of the mode. -/
theorem loadPlacesTheImage : Obligations.LoadPlacesTheImage := by
  unfold Obligations.LoadPlacesTheImage
  intro cfg image
  simp only [← imageCapacity_eq, ← loadAddr_toNat]
  exact ⟨load_of_lt, fun h => ⟨_, load_of_le h, read_ofImage_eq image _⟩⟩

/-- Settles O48: memory is empty at reset, and after a load it holds the cells of an image that fits. -/
theorem invariantAtResetAndAfterLoad : Obligations.InvariantAtResetAndAfterLoad := by
  unfold Obligations.InvariantAtResetAndAfterLoad
  refine ⟨Memory.wf_nil, fun cfg image s h => ?_⟩
  rcases Nat.lt_or_ge (imageCapacity cfg.mode) image.length with hlong | hfits
  · rw [load_of_lt hlong] at h
    nomatch h
  · rw [load_of_le hfits] at h
    cases h
    exact wf_ofImage_of_le hfits

/-- Settles O54: a request while INTE = 0 is dropped, and an acceptance leaves INTE = 0. -/
theorem disabledInterruptsAreDropped : Obligations.DisabledInterruptsAreDropped := by
  unfold Obligations.DisabledInterruptsAreDropped
  refine ⟨fun id s => raiseInterrupt_of_disabled id, fun id id2 s t hs h => raiseInterrupt_of_disabled id2 ?_⟩
  obtain ⟨hdisabled, -⟩ | ⟨n, -, -, rfl⟩ := raiseInterrupt_cases h
  · nomatch hs.symm.trans hdisabled
  · obtain ⟨-, -, hinte, -⟩ := acceptInterrupt_fields n s
    exact hinte

/-- Settles O58: each field of `State.initial` is the value of R44; PC is the load address, a case per mode. -/
theorem resetValues : Obligations.ResetValues := by
  unfold Obligations.ResetValues
  refine ⟨fun cfg => ?_, rfl⟩
  exact ⟨rfl, rfl, congrArg loadAddr, congrArg loadAddr, rfl, rfl, rfl, rfl, rfl, rfl, rfl,
    fun _ => Vector.getElem_replicate _, fun _ => Vector.getElem_replicate _, fun _ => rfl, rfl⟩

end Sys2Proof.Claims
end
